-- ==== Sys2Proof/Word.lean ====
section
/-! DEFINITION. The word types of the Begulon 3340 and the two levels of a shared line. -/

namespace Sys2Proof

/-- A byte of a control-port transaction. -/
abbrev Byte := BitVec 8

/-- A word of the output stream and of the control port, bits 31 (sent first) to 0. -/
abbrev Word := BitVec 32

/-- A 10-bit word of the sensor port: a tag word or a pixel (R134). -/
abbrev Pixel := BitVec 10

/-- A frame number; arithmetic on frame numbers is modulo 65536 (00_scope.md section 5). -/
abbrev FrameNo := BitVec 16

/-- The four bits a station draws for each round it drives (R24). -/
abbrev Nonce := BitVec 4

/-- The level read on MARK or TALLY (R1): dominant reads 0, recessive reads 1. -/
inductive Level where
  | dominant
  | recessive
  deriving DecidableEq, Repr

/-- What a station does to a line (R1): it pulls the line low or releases it. -/
inductive Drive where
  | pulled
  | released
  deriving DecidableEq, Repr

end Sys2Proof
end

