-- ==== Sys2Proof/Syntax.lean ====
section
/-! DEFINITION. The commands of the block: one constructor for each row of spec/opcode_table.json. -/

namespace Sys2Proof

/-- The commands and events of the part. Each is one step, whole and indivisible
(95_what_each_step_holds.md). An operand carries what the part takes from outside at that step. -/
inductive Instr where
  /-- READ_ITEM (R158): the index byte. -/
  | readItem (index : Byte)
  /-- WRITE_ITEM (R159): the index byte and the word of the four data bytes. -/
  | writeItem (index : Byte) (word : Word)
  /-- READ_ROSTER (R108): the index byte. -/
  | readRoster (index : Byte)
  /-- READ_STATUS (R163). -/
  | readStatus
  /-- START (R161): the level read on MARK, which becomes the MARK reference (R2). -/
  | start (mark : Level)
  /-- STOP (R82). -/
  | stop
  /-- HOLD_ON (R43). -/
  | holdOn
  /-- HOLD_OFF (R43). -/
  | holdOff
  /-- A command byte that names none of the eight commands (R156). -/
  | unknownCommandByte (code : Byte)
  /-- SEL_N rises before the transaction is complete (R156). -/
  | transactionAbandoned
  /-- Power-up, or RESET_N goes low (R165). -/
  | powerOnReset
  /-- MARK rises (R5); `atWindowClose`: at the very instant of a window close that was taken first
  (R9). -/
  | mark (atWindowClose : Bool := false)
  /-- Two bit times after a mark (R65). -/
  | markHold
  /-- A check of MARK at the middle of a bit time of the hold (R16): the level read. -/
  | markDriveFault (level : Level)
  /-- 240 bit times after a mark (R37). -/
  | windowClose
  /-- 240 bit times after a local frame start (R35). -/
  | localWindowClose
  /-- The end of the row slot now counting (R128). -/
  | rowSlotEnd
  /-- The end of slot H (R63). -/
  | readEnd
  /-- The deadline of the pending row (R136). -/
  | deadline
  /-- The end of slot T - 1 (R64). -/
  | expiry
  /-- The wait reaches the mark patience (R69): the level MARK reads, should the station try to
  found (R72, R89). -/
  | patienceExpiry (mark : Level)
  /-- SD_ROW falls (R135); `atReadEnd`: at the very instant of the frame's read end (R136). -/
  | delivery (atReadEnd : Bool)
  /-- The sensor port sends its oldest queued command (R126). -/
  | sensorCommandSend
  /-- The consumer accepts the word presented (R149). -/
  | outputWordAccept
  /-- The oldest notice moves into the output queue (R152). -/
  | noticeMove
  /-- The start of the next round bit (R6). -/
  | roundBitStart
  /-- The middle of the round bit (R8): the level read on TALLY. -/
  | roundBitSample (level : Level)
  /-- The end of bit 225, 230 bit times after the mark (R6). -/
  | roundEnd
  /-- MARK reads dominant (R5). -/
  | markFall
  /-- A complete row time of the wait ends (R64). -/
  | waitTimerTick
  /-- SD_ROW rises (R134); `atReadEnd` as for `delivery`, for a delivery this rise closes (R135). -/
  | deliveryOpen (atReadEnd : Bool)
  /-- A word is taken on SD with SD_VAL and SD_ROW high (R134). -/
  | deliveryWord (word : Pixel)
  /-- The last data byte of a read has been sent (R157). -/
  | lastDataByteSent
  /-- RESET_N rises (R165): whether SEL_N is high at that moment. -/
  | resetRelease (selHigh : Bool)
  deriving DecidableEq, Repr

end Sys2Proof
end

