-- ==== Sys2Proof/WellFormed.lean ====
section
/-! DEFINITION. Which commands can be sent: the operand types admit every value but for one row. -/

namespace Sys2Proof

/-- The eight command codes of R168. -/
def commandCodes : List Byte := [0x01, 0x02, 0x10, 0x11, 0x12, 0x13, 0x20, 0x21]

/-- UNKNOWN_COMMAND_BYTE stands for a byte "whose code is not one of the eight commands" (R156). Every
other row's operands are meaningful at every value of their types. -/
def Instr.wellFormed : Instr → Bool
  | .unknownCommandByte code => !commandCodes.contains code
  | .readItem _ | .writeItem _ _ | .readRoster _ | .readStatus | .start _ | .stop | .holdOn
  | .holdOff | .transactionAbandoned | .powerOnReset | .mark _ | .markHold | .markDriveFault _
  | .windowClose | .localWindowClose | .rowSlotEnd | .readEnd | .deadline | .expiry
  | .patienceExpiry _ | .delivery _ | .sensorCommandSend | .outputWordAccept | .noticeMove
  | .roundBitStart | .roundBitSample _ | .roundEnd | .markFall | .waitTimerTick | .deliveryOpen _
  | .deliveryWord _ | .lastDataByteSent | .resetRelease _ => true

end Sys2Proof
end

