-- ==== Sys2Proof/Decode.lean ====
section
/-! DEFINITION. The decoder: the opcode table gives no row any bits, so `decodeTableWord` answers none.
The control port's transactions do have bytes (R156, R168); `decodeTransaction` reads them. -/

namespace Sys2Proof

/-- No row of spec/opcode_table.json gives bits ("fields" is empty in every row), so no word spells a
command (log entry 27). -/
def decodeTableWord (_nbits _w : Nat) : Option Instr := none

/-- The word of four data bytes, bits 31 to 24 first (R168). -/
def wordOfBytes (b3 b2 b1 b0 : Byte) : Word := b3 ++ b2 ++ b1 ++ b0

/-- The four data bytes of a word, bits 31 to 24 first (R157, R168). -/
def bytesOfWord (w : Word) : List Byte :=
  [w.extractLsb' 24 8, w.extractLsb' 16 8, w.extractLsb' 8 8, w.extractLsb' 0 8]

/-- The eight bits of a byte as SDI and SDO carry them, most significant first, one for each SCK period;
true is 1 (R156). -/
def serialBits (b : Byte) : List Bool := (List.range 8).map fun i => b.getLsbD (7 - i)

/-- The byte of eight bits, the first the most significant (R156). -/
def byteOfBits (bits : List Bool) : Byte := BitVec.ofNat 8 (bits.foldl (fun n b => 2 * n + b.toNat) 0)

/-- The bytes that a run of bits on SDI completes, with the bits of the byte already begun; a byte is
received with its eighth bit (R156). -/
def bytesOfBits (begun : List Bool) : List Bool → List Byte
  | [] => []
  | b :: rest =>
    if begun.length = 7 then byteOfBits (begun ++ [b]) :: bytesOfBits [] rest
    else bytesOfBits (begun ++ [b]) rest

/-- The command that the bytes received on SDI carry out, by the codes of R168. `mark` is the level on
the MARK pin, which START reads. A prefix on which no command has yet acted answers none (R156); bytes
after the last byte of a complete transaction are ignored. A READ acts when it takes its word. -/
def decodeTransaction (mark : Level) : List Byte → Option Instr
  | [] => none
  | code :: rest =>
    if code = 0x01 then
      match rest with
      | index :: _ => some (.readItem index)
      | [] => none
    else if code = 0x02 then
      match rest with
      | index :: b3 :: b2 :: b1 :: b0 :: _ => some (.writeItem index (wordOfBytes b3 b2 b1 b0))
      | _ => none
    else if code = 0x21 then
      match rest with
      | index :: _ => some (.readRoster index)
      | [] => none
    else if code = 0x20 then some .readStatus
    else if code = 0x10 then some (.start mark)
    else if code = 0x11 then some .stop
    else if code = 0x12 then some .holdOn
    else if code = 0x13 then some .holdOff
    else some (.unknownCommandByte code)

/-- The bytes a host sends on SDI for a host command (R156, R168); none for the rows that are not
commands of the control port. -/
def transactionBytes : Instr → Option (List Byte)
  | .readItem index => some [0x01, index]
  | .writeItem index word => some (0x02 :: index :: bytesOfWord word)
  | .readRoster index => some [0x21, index]
  | .readStatus => some [0x20]
  | .start _ => some [0x10]
  | .stop => some [0x11]
  | .holdOn => some [0x12]
  | .holdOff => some [0x13]
  | .unknownCommandByte code => some [code]
  | .transactionAbandoned | .powerOnReset | .mark _ | .markHold | .markDriveFault _
  | .windowClose | .localWindowClose | .rowSlotEnd | .readEnd | .deadline | .expiry
  | .patienceExpiry _ | .delivery _ | .sensorCommandSend | .outputWordAccept | .noticeMove
  | .roundBitStart | .roundBitSample _ | .roundEnd | .markFall | .waitTimerTick | .deliveryOpen _
  | .deliveryWord _ | .lastDataByteSent | .resetRelease _ => none

end Sys2Proof
end

