-- ==== Sys2Proof/Config.lean ====
section
/-! DEFINITION. The free values: what the manual leaves open and no proof may know. -/

namespace Sys2Proof

/-- FREE VALUE (log entry 5). At one event, notices of different blocks enter the notice list "in
whichever order they reach it" (R150). The n-th choice among the blocks that still have a notice to
hand over is this number modulo how many they are. It has no body: nothing can be proved of it. -/
opaque Config.freeBlock : Nat → Nat

/-- FREE VALUE (log entry 6). At a mark the round engine and the frame timer act in no fixed order
(R5, R123). Where the order matters, `true` means that the round engine took its offers first. -/
opaque Config.freeEngineFirst : Nat → Bool

end Sys2Proof
end

