-- ==== Sys2Proof/Machine/Bits.lean ====
section
/-! DEFINITION. Levels as binary digits, the two bit sequences of a round, and bounded arithmetic. -/

namespace Sys2Proof.Machine

/-- The binary digit of a level: 0 for dominant, 1 for recessive (R1, R10). -/
def levelBit : Level → Bool
  | .dominant => false
  | .recessive => true

/-- The level that carries a binary digit (R10). -/
def levelOfBit (b : Bool) : Level := if b then .recessive else .dominant

/-- The complement of a level, as a MAX contest drives and reads it (R11). -/
def flipLevel : Level → Level
  | .dominant => .recessive
  | .recessive => .dominant

/-- A sequence of levels as a binary number, most significant first (R10). -/
def levelsToNat (ls : List Level) : Nat :=
  ls.foldl (fun v l => 2 * v + (levelBit l).toNat) 0

/-- The levels that carry the low `width` bits of a value, most significant first (R10). -/
def natToLevels : Nat → Nat → List Level
  | 0, _ => []
  | width + 1, v => levelOfBit (v.testBit width) :: natToLevels width v

/-- The `len` levels from position `start` of a round (R8). -/
def readBits (bits : List Level) (start len : Nat) : List Level := (bits.drop start).take len

/-- The level of one bit of a round; a bit not sampled does not occur where this is asked. -/
def bitAt (bits : List Level) (i : Nat) : Level := bits.getD i .recessive

/-- clamp(x, a, b): x limited to the range a to b (00_scope.md section 6). -/
def clampInt (x lo hi : Int) : Int := max lo (min x hi)

/-- One more, saturating at `top` (R15, R145, R164). -/
def satSucc (top n : Nat) : Nat := min (n + 1) top

/-- One update of the check register with the level read (R30). -/
def crcStep (reg : BitVec 8) (l : Level) : BitVec 8 :=
  let shifted := reg <<< 1
  if levelBit l ^^ reg.msb then shifted ^^^ 0x07 else shifted

/-- The check value over a run of levels, from the preset of all ones (R30). -/
def crcOf (ls : List Level) : BitVec 8 := ls.foldl crcStep 0xFF

/-- One step of the nonce sequence: the output bit and the register after it (R24). -/
def nonceStep (reg : BitVec 15) : Bool × BitVec 15 :=
  let out := reg.getLsbD 14 ^^ reg.getLsbD 13
  (out, (reg <<< 1) ||| (BitVec.ofBool out).setWidth 15)

/-- Four steps: the round nonce, first output bit most significant, and the register after (R24). -/
def drawNonce (reg : BitVec 15) : Nonce × BitVec 15 :=
  let (a, r1) := nonceStep reg
  let (b, r2) := nonceStep r1
  let (c, r3) := nonceStep r2
  let (d, r4) := nonceStep r3
  (BitVec.ofBool a ++ BitVec.ofBool b ++ BitVec.ofBool c ++ BitVec.ofBool d, r4)

/-- The seed as START loads it: 0 is loaded as 1 (R24). -/
def seedRegister (seed : Nat) : BitVec 15 :=
  let r := BitVec.ofNat 15 seed
  if r = 0 then 1 else r

/-- A value placed in bits `hi` to `lo` of a word (chapter 11). -/
def place (hi lo v : Nat) : Word := (BitVec.ofNat 32 (v % 2 ^ (hi + 1 - lo))) <<< lo

/-- A one-bit mark placed in bit `i` of a word. -/
def placeBit (i : Nat) (b : Bool) : Word := place i i b.toNat

/-- Bits `hi` to `lo` of a word as a number (chapter 11). -/
def fieldOf (w : Word) (hi lo : Nat) : Nat := (w.toNat / 2 ^ lo) % 2 ^ (hi + 1 - lo)

/-- A set of slots as a word: bit s set for slot s (R166, R168). -/
def slotMask (slots : List Nat) : Word := slots.foldl (fun w s => w ||| placeBit s true) 0

end Sys2Proof.Machine
end

