-- ==== Sys2Proof/Machine/Items.lean ====
section
/-! DEFINITION. The configuration items of section 10.4: their values, defaults, words and ranges, and
the cross-item checks of START. -/

namespace Sys2Proof.Machine

/-- How the proposals of a round are reduced to one target value (R50). -/
inductive Policy where
  | highlight
  | shadow
  | span
  deriving DecidableEq, Repr

/-- One step of the ladder (R52). -/
structure LadderStep where
  threshold : Nat
  time : Nat
  gain : Nat
  deriving DecidableEq, Repr

/-- The configuration items (section 10.4). -/
structure Items where
  slot : Nat
  seed : Nat
  bitTime : Nat
  rowTime : Nat
  /-- T. -/
  framePeriod : Nat
  /-- H. -/
  rowsRead : Nat
  /-- W. -/
  rowWidth : Nat
  markPatience : Nat
  listenTimeout : Nat
  joinCount : Nat
  voidLimit : Nat
  missLimit : Nat
  /-- Bit s for slot s. -/
  expectedSet : Word
  quorum : Nat
  policy : Policy
  stepLimit : Nat
  initialExv : Nat
  offset : Int
  ladderCount : Nat
  /-- Steps 0 to 63. -/
  ladder : List LadderStep
  r0 : Nat
  r1 : Nat
  c0 : Nat
  c1 : Nat
  subsample : Nat
  minSamples : Nat
  percentile : Nat
  targetBin : Nat
  clipLimit : Nat
  bias : Int
  innerBand : Nat
  outerBand : Nat
  settleCount : Nat
  deriving DecidableEq, Repr

/-- The values after power-on reset (section 10.4). -/
def Items.default : Items where
  slot := 0
  seed := 1
  bitTime := 160
  rowTime := 1600
  framePeriod := 1000
  rowsRead := 960
  rowWidth := 1280
  markPatience := 50
  listenTimeout := 8
  joinCount := 2
  voidLimit := 4
  missLimit := 3
  expectedSet := 0
  quorum := 1
  policy := .span
  stepLimit := 16
  initialExv := 2048
  offset := 0
  ladderCount := 1
  ladder := ⟨0, 500, 0⟩ :: List.replicate 63 ⟨0, 1, 0⟩
  r0 := 0
  r1 := 959
  c0 := 0
  c1 := 1279
  subsample := 4
  minSamples := 256
  percentile := 32
  targetBin := 8
  clipLimit := 2
  bias := 0
  innerBand := 1
  outerBand := 2
  settleCount := 2

/-- Every item lies in its range of section 10.4. -/
def Items.inRange (it : Items) : Bool :=
  it.slot ≤ 31 && it.seed ≤ 32767 && (16 ≤ it.bitTime && it.bitTime ≤ 1023)
  && (64 ≤ it.rowTime && it.rowTime ≤ 65535) && (2 ≤ it.framePeriod && it.framePeriod ≤ 4096)
  && (1 ≤ it.rowsRead && it.rowsRead ≤ 2048) && (16 ≤ it.rowWidth && it.rowWidth ≤ 4096)
  && (1 ≤ it.markPatience && it.markPatience ≤ 4095)
  && (2 ≤ it.listenTimeout && it.listenTimeout ≤ 255) && (1 ≤ it.joinCount && it.joinCount ≤ 7)
  && (2 ≤ it.voidLimit && it.voidLimit ≤ 15) && (1 ≤ it.missLimit && it.missLimit ≤ 7)
  && (1 ≤ it.quorum && it.quorum ≤ 32) && (1 ≤ it.stepLimit && it.stepLimit ≤ 1024)
  && it.initialExv ≤ 4095 && (-2048 ≤ it.offset && it.offset ≤ 2047) && it.ladderCount ≤ 64
  && it.ladder.length == 64
  && it.ladder.all (fun st => st.threshold ≤ 4095 && (1 ≤ st.time && st.time ≤ 4095)
      && st.gain ≤ 255)
  && it.r0 ≤ 2047 && it.r1 ≤ 2047 && it.c0 ≤ 4095 && it.c1 ≤ 4095
  && (it.subsample == 1 || it.subsample == 2 || it.subsample == 4)
  && (16 ≤ it.minSamples && it.minSamples ≤ 65535) && (1 ≤ it.percentile && it.percentile ≤ 63)
  && (1 ≤ it.targetBin && it.targetBin ≤ 12) && it.clipLimit ≤ 63
  && (-128 ≤ it.bias && it.bias ≤ 127) && it.innerBand ≤ 3
  && (1 ≤ it.outerBand && it.outerBand ≤ 6) && (1 ≤ it.settleCount && it.settleCount ≤ 7)

/-- The policy's code (R168). -/
def Policy.code : Policy → Nat
  | .highlight => 0
  | .shadow => 1
  | .span => 2

/-- A signed item in two's complement in the width of its field (chapter 11). -/
def signedField (width : Nat) (x : Int) : Nat := (BitVec.ofInt width x).toNat

/-- The word of a ladder step (R168). -/
def LadderStep.word (st : LadderStep) : Word :=
  place 31 24 st.gain ||| place 23 12 st.threshold ||| place 11 0 st.time

/-- The word of the configuration item with an index, or none if the index names no configuration
item (R168). Bits outside the item's fields are 0 (R169). -/
def Items.word (it : Items) (index : Nat) : Option Word :=
  if index < 0x1E then
    match index with
    | 0x00 => some (place 4 0 it.slot)
    | 0x01 => some (place 14 0 it.seed)
    | 0x02 => some (place 9 0 it.bitTime)
    | 0x03 => some (place 15 0 it.rowTime)
    | 0x04 => some (place 12 0 it.framePeriod)
    | 0x05 => some (place 11 0 it.rowsRead)
    | 0x06 => some (place 12 0 it.rowWidth)
    | 0x07 => some (place 11 0 it.markPatience)
    | 0x08 => some (place 7 0 it.listenTimeout)
    | 0x09 => some (place 2 0 it.joinCount)
    | 0x0A => some (place 3 0 it.voidLimit)
    | 0x0B => some (place 2 0 it.missLimit)
    | 0x0C => some it.expectedSet
    | 0x0D => some (place 5 0 it.quorum)
    | 0x0E => some (place 1 0 it.policy.code)
    | 0x0F => some (place 10 0 it.stepLimit)
    | 0x10 => some (place 11 0 it.initialExv)
    | 0x11 => some (place 11 0 (signedField 12 it.offset))
    | 0x12 => some (place 6 0 it.ladderCount)
    | 0x13 => some (place 27 16 it.r0 ||| place 11 0 it.r1)
    | 0x14 => some (place 27 16 it.c0 ||| place 11 0 it.c1)
    | 0x15 => some (place 2 0 it.subsample)
    | 0x16 => some (place 15 0 it.minSamples)
    | 0x17 => some (place 5 0 it.percentile)
    | 0x18 => some (place 3 0 it.targetBin)
    | 0x19 => some (place 5 0 it.clipLimit)
    | 0x1A => some (place 7 0 (signedField 8 it.bias))
    | 0x1B => some (place 1 0 it.innerBand)
    | 0x1C => some (place 2 0 it.outerBand)
    | _ => some (place 2 0 it.settleCount)
  else if 0x80 ≤ index ∧ index < 0xC0 then
    (it.ladder[index - 0x80]?).map LadderStep.word
  else none

/-- Whether an index names a configuration item, which WRITE_ITEM can write (R159, R168). -/
def isConfigIndex (index : Nat) : Bool := index < 0x1E || (0x80 ≤ index && index < 0xC0)

/-- The right-aligned field of `width` bits, if every bit outside it is 0 (R169) and its value lies in
the item's range `lo` to `hi` (section 10.4). -/
def rightField (w : Word) (width lo hi : Nat) : Option Nat :=
  let v := w.toNat
  if v < 2 ^ width ∧ lo ≤ v ∧ v ≤ hi then some v else none

/-- The right-aligned signed field of `width` bits, if every bit outside it is 0; every value of the
field lies in range (R169). -/
def rightSigned (w : Word) (width : Nat) : Option Int :=
  if w.toNat < 2 ^ width then some (BitVec.ofNat width w.toNat).toInt else none

/-- The two fields 27-16 and 11-0 of a window word, if every bit outside them is 0 and each is at most
`top` (R168, R169). -/
def windowFields (w : Word) (top : Nat) : Option (Nat × Nat) :=
  let a := fieldOf w 27 16
  let b := fieldOf w 11 0
  if fieldOf w 31 28 = 0 ∧ fieldOf w 15 12 = 0 ∧ a ≤ top ∧ b ≤ top then some (a, b) else none

/-- The ladder step a word carries, if its fields are in range (R168, section 10.4). The threshold and
gain fields cover their ranges; the time must be 1 to 4095. -/
def ladderFields (w : Word) : Option LadderStep :=
  let time := fieldOf w 11 0
  if 1 ≤ time then some ⟨fieldOf w 23 12, time, fieldOf w 31 24⟩ else none

/-- The items after a write of a word to an index that names a configuration item, or none if the word
fails the layout or the range of that item (R159, R169). -/
def Items.write (it : Items) (index : Nat) (w : Word) : Option Items :=
  if index < 0x1E then
    match index with
    | 0x00 => (rightField w 5 0 31).map fun v => { it with slot := v }
    | 0x01 => (rightField w 15 0 32767).map fun v => { it with seed := v }
    | 0x02 => (rightField w 10 16 1023).map fun v => { it with bitTime := v }
    | 0x03 => (rightField w 16 64 65535).map fun v => { it with rowTime := v }
    | 0x04 => (rightField w 13 2 4096).map fun v => { it with framePeriod := v }
    | 0x05 => (rightField w 12 1 2048).map fun v => { it with rowsRead := v }
    | 0x06 => (rightField w 13 16 4096).map fun v => { it with rowWidth := v }
    | 0x07 => (rightField w 12 1 4095).map fun v => { it with markPatience := v }
    | 0x08 => (rightField w 8 2 255).map fun v => { it with listenTimeout := v }
    | 0x09 => (rightField w 3 1 7).map fun v => { it with joinCount := v }
    | 0x0A => (rightField w 4 2 15).map fun v => { it with voidLimit := v }
    | 0x0B => (rightField w 3 1 7).map fun v => { it with missLimit := v }
    | 0x0C => some { it with expectedSet := w }
    | 0x0D => (rightField w 6 1 32).map fun v => { it with quorum := v }
    | 0x0E =>
      match w.toNat with
      | 0 => some { it with policy := .highlight }
      | 1 => some { it with policy := .shadow }
      | 2 => some { it with policy := .span }
      | _ => none
    | 0x0F => (rightField w 11 1 1024).map fun v => { it with stepLimit := v }
    | 0x10 => (rightField w 12 0 4095).map fun v => { it with initialExv := v }
    | 0x11 => (rightSigned w 12).map fun v => { it with offset := v }
    | 0x12 => (rightField w 7 0 64).map fun v => { it with ladderCount := v }
    | 0x13 => (windowFields w 2047).map fun v => { it with r0 := v.1, r1 := v.2 }
    | 0x14 => (windowFields w 4095).map fun v => { it with c0 := v.1, c1 := v.2 }
    | 0x15 =>
      if w.toNat = 1 ∨ w.toNat = 2 ∨ w.toNat = 4 then some { it with subsample := w.toNat } else none
    | 0x16 => (rightField w 16 16 65535).map fun v => { it with minSamples := v }
    | 0x17 => (rightField w 6 1 63).map fun v => { it with percentile := v }
    | 0x18 => (rightField w 4 1 12).map fun v => { it with targetBin := v }
    | 0x19 => (rightField w 6 0 63).map fun v => { it with clipLimit := v }
    | 0x1A => (rightSigned w 8).map fun v => { it with bias := v }
    | 0x1B => (rightField w 2 0 3).map fun v => { it with innerBand := v }
    | 0x1C => (rightField w 3 1 6).map fun v => { it with outerBand := v }
    | _ => (rightField w 3 1 7).map fun v => { it with settleCount := v }
  else (ladderFields w).map fun st => { it with ladder := it.ladder.set (index - 0x80) st }

/-- The last START error (R155). -/
inductive StartError where
  | none
  | badGeometry
  | roundTooLong
  | badLadder
  | badWindow
  | badBands
  deriving DecidableEq, Repr

/-- The ladder steps in use: steps 0 to count - 1 (R52). -/
def Items.stepsInUse (it : Items) : List LadderStep := it.ladder.take it.ladderCount

/-- Whether each threshold is greater than the one before it (R52). -/
def strictlyAscending : List LadderStep → Bool
  | a :: b :: rest => a.threshold < b.threshold && strictlyAscending (b :: rest)
  | _ => true

/-- The ladder as START accepts it: not BAD_LADDER (R52, R161). -/
def Items.ladderGood (it : Items) : Bool :=
  it.ladderCount != 0
  && (it.stepsInUse.head?.map (·.threshold)) == some 0
  && strictlyAscending it.stepsInUse
  && it.stepsInUse.all (fun st => 1 ≤ st.time && st.time ≤ it.framePeriod - 1)

/-- The first cross-item check of START that fails, in the order of R161; `none` when all pass. -/
def Items.startCheck (it : Items) : StartError :=
  if ¬ it.rowsRead < it.framePeriod ∨ it.rowWidth % 2 = 1 then .badGeometry
  else if 240 * it.bitTime > it.framePeriod * it.rowTime then .roundTooLong
  else if ¬ it.ladderGood then .badLadder
  else if it.r0 > it.r1 ∨ ¬ it.r1 < it.rowsRead ∨ it.c0 > it.c1 ∨ ¬ it.c1 < it.rowWidth then
    .badWindow
  else if ¬ it.outerBand > it.innerBand then .badBands
  else .none

end Sys2Proof.Machine
end

