-- ==== Sys2Proof/Machine/Blocks.lean ====
section
/-! DEFINITION. The state of each block of the part and its value after power-on reset. -/

namespace Sys2Proof.Machine

/-! ### Names shared by the blocks -/

/-- The station state (R79). -/
inductive StationState where
  | off
  | listen
  | joining
  | synced
  | barred
  deriving DecidableEq, Repr

/-- The cause a STATE_CHANGED notice carries (R80). -/
inductive Cause where
  | start
  | stop
  | joined
  | synced
  | founded
  | markStall
  | voidLimit
  | idConflict
  deriving DecidableEq, Repr

/-- The two shared lines, as a LINE_FAULT names them (R39). -/
inductive Line where
  | tally
  | mark
  deriving DecidableEq, Repr

/-- The origin of a schedule entry (R48). -/
inductive Source where
  | agreed
  | kept
  | held
  | void
  | local
  deriving DecidableEq, Repr

/-- The outcome of a round (R33, R34). -/
inductive RoundOutcome where
  | clean
  | void
  | heard
  | unheard
  deriving DecidableEq, Repr

/-- How a frame began (R62). -/
inductive StartKind where
  | marked
  | local
  | cut
  deriving DecidableEq, Repr

/-! ### Tally interface (R2) -/

/-- A station's standing in the contest field it is driving (R10). -/
inductive FieldStanding where
  | inField
  | lost
  | faulted
  deriving DecidableEq, Repr

/-- The state of the tally interface (R2). -/
structure TallyInterface where
  markDrive : Drive
  tallyDrive : Drive
  markReference : Option Level
  roundClock : Option Nat
  roundInProgress : Bool
  driving : Bool
  withdrawn : Bool
  standing : FieldStanding
  faultNoted : Bool
  holdClock : Option Nat
  /-- The level last read on MARK during the hold, for the release (R5; log entry 8). -/
  heldRead : Level
  /-- The MARK reference that a hold begun by a join at a window close found, for a mark at the same
  instant; none at every other hold (R9, R66; log entry 32). -/
  referenceAtJoin : Option Level
  deriving DecidableEq, Repr

/-- R2, column power-on reset. -/
def TallyInterface.powerOn : TallyInterface where
  markDrive := .released
  tallyDrive := .released
  markReference := none
  roundClock := none
  roundInProgress := false
  driving := false
  withdrawn := false
  standing := .inField
  faultNoted := false
  holdClock := none
  heldRead := .dominant
  referenceAtJoin := none

/-! ### Round engine (R19) -/

/-- Which window is open (R19). -/
inductive Window where
  | closed
  | marked
  | local
  deriving DecidableEq, Repr

/-- The propose indication and desired value of the meter's latest result (R21). -/
structure MeterBasis where
  propose : Bool
  desired : Option Nat
  deriving DecidableEq, Repr

/-- The values the round engine takes when a window opens, fixed for the whole round (R21, R35). -/
structure Offers where
  /-- The station was SYNCED at the mark (R20). -/
  synced : Bool
  hold : Bool
  standing : Nat
  proposal : Option Nat
  basis : MeterBasis
  /-- Taken at the start of bit 161. -/
  nextFrame : Option FrameNo
  deriving DecidableEq, Repr

/-- The round record being filled in as bits are sampled (R19, R37). -/
structure RoundDraft where
  /-- The levels sampled, bit 0 first. -/
  bits : List Level
  /-- Whether the station drove the round from its mark (R37). -/
  drove : Bool
  heldStanding : Bool
  heldLow : Bool
  heldHigh : Bool
  deriving DecidableEq, Repr

/-- An empty record (R19). -/
def RoundDraft.empty : RoundDraft where
  bits := []
  drove := false
  heldStanding := false
  heldLow := false
  heldHigh := false

/-- The state of the round engine (R19). -/
structure RoundEngine where
  window : Window
  drove : Bool
  nonceRegister : BitVec 15
  roundNonce : Option Nonce
  offers : Option Offers
  checkRegister : BitVec 8
  voidVote : Bool
  draft : RoundDraft
  localClock : Option Nat
  deriving DecidableEq, Repr

/-- R19, column power-on reset. -/
def RoundEngine.powerOn : RoundEngine where
  window := .closed
  drove := false
  nonceRegister := 1
  roundNonce := none
  offers := none
  checkRegister := 0xFF
  voidVote := false
  draft := .empty
  localClock := none

/-- The round record passed on at a window close (R37). Absent fields are `none`. -/
structure RoundRecord where
  frame : FrameNo
  drove : Bool
  outcome : Option RoundOutcome
  withdrawn : Bool
  incomplete : Bool
  roll : Option (List (Nat × Nonce))
  ownNonce : Option Nonce
  /-- INTACT; false stands for an absent own echo. -/
  ownEchoIntact : Bool
  nextFrame : Option FrameNo
  hold : Option Level
  /-- The value read and its flag "held"; so for the two proposals. -/
  standing : Option (Nat × Bool)
  low : Option (Nat × Bool)
  high : Option (Nat × Bool)
  holdRequest : Bool
  basis : MeterBasis
  deriving DecidableEq, Repr

/-! ### Station controller (R79) -/

/-- The state of the station controller (R79). -/
structure StationController where
  state : StationState
  joinCount : Nat
  voidCount : Nat
  listenCount : Nat
  lineLow : Bool
  slotBusy : Bool
  deriving DecidableEq, Repr

/-- R79, column power-on reset. -/
def StationController.powerOn : StationController where
  state := .off
  joinCount := 0
  voidCount := 0
  listenCount := 0
  lineLow := false
  slotBusy := false

/-! ### Frame timer (R62) -/

/-- The phase, with the row slot while slots are counted and the wait timer while waiting: the only
times at which R62 keeps them. -/
inductive TimerPhase where
  | idle
  | leadIn (slot : Nat)
  | counting (slot : Nat)
  | wait (rowTimes : Nat)
  deriving DecidableEq, Repr

/-- The state of the frame timer (R62). -/
structure FrameTimer where
  phase : TimerPhase
  current : FrameNo
  next : FrameNo
  startKind : Option StartKind
  markLag : Nat
  readEndPassed : Bool
  deriving DecidableEq, Repr

/-- R62, column power-on reset. -/
def FrameTimer.powerOn : FrameTimer where
  phase := .idle
  current := 65535
  next := 0
  startKind := none
  markLag := 0
  readEndPassed := false

/-! ### Roster (R97) -/

/-- The state of a peer record (R97). -/
inductive PeerState where
  | absent
  | present
  | missing
  | lost
  deriving DecidableEq, Repr

/-- The three fields that become present together (R97). -/
structure Seen where
  lastSeen : FrameNo
  arrival : FrameNo
  nonce : Nonce
  deriving DecidableEq, Repr

/-- One peer record (R97). -/
structure PeerRecord where
  state : PeerState
  missCount : Nat
  seen : Option Seen
  deriving DecidableEq, Repr

/-- A record after power-on reset and after START (R97). -/
def PeerRecord.cleared : PeerRecord where
  state := .absent
  missCount := 0
  seen := none

/-- The 32 records after power-on reset and after START (R97). -/
def clearedRoster : List PeerRecord := List.replicate 32 .cleared

/-! ### Agreement unit and exposure schedule (R42, R53) -/

/-- Whether the last CLEAN round met quorum (R42). -/
inductive QuorumFlag where
  | undecided
  | met
  | notMet
  deriving DecidableEq, Repr

/-- The state of the agreement unit (R42). -/
structure AgreementUnit where
  /-- S. -/
  standing : Nat
  holdRequest : Bool
  quorumFlag : QuorumFlag
  deriving DecidableEq, Repr

/-- R42, column power-on reset. -/
def AgreementUnit.powerOn : AgreementUnit where
  standing := 2048
  holdRequest := false
  quorumFlag := .undecided

/-- A schedule entry (R53). -/
structure Entry where
  target : FrameNo
  source : Source
  arrayExv : Nat
  localExv : Nat
  step : Nat
  time : Nat
  gain : Nat
  deciding : FrameNo
  agreeing : Option (List Nat)
  deriving DecidableEq, Repr

/-- What a frame start uses where the schedule is too short to hold an entry for it, which R54 excludes
(log entry 24). -/
def Entry.vacant : Entry where
  target := 0
  source := .local
  arrayExv := 0
  localExv := 0
  step := 0
  time := 1
  gain := 0
  deciding := 0
  agreeing := none

/-! ### Meter (R111) -/

/-- The meter's phase (R111). -/
inductive MeterPhase where
  | idle
  | collecting
  | done
  deriving DecidableEq, Repr

/-- The meter state (R120). -/
inductive MeterState where
  | seeking
  | settled
  deriving DecidableEq, Repr

/-- The meter result record (R122). The clip count is the count of bin 13. -/
structure MeterResult where
  frame : FrameNo
  arrayExv : Nat
  samples : Nat
  bins : List Nat
  valid : Bool
  percentileBin : Option Nat
  error : Option Int
  desired : Option Nat
  stateAfter : MeterState
  propose : Bool
  deriving DecidableEq, Repr

/-- The state of the meter (R111). -/
structure Meter where
  phase : MeterPhase
  frame : Option (FrameNo × Nat)
  bins : List Nat
  samples : Nat
  windowRows : Nat
  state : MeterState
  settle : Nat
  latest : Option MeterResult
  deriving DecidableEq, Repr

/-- Fourteen counts of 0 (R111). -/
def emptyBins : List Nat := List.replicate 14 0

/-- R111, columns power-on reset and START. -/
def Meter.powerOn : Meter where
  phase := .idle
  frame := none
  bins := emptyBins
  samples := 0
  windowRows := 0
  state := .seeking
  settle := 0
  latest := none

/-! ### Row engine and sensor port (R125) -/

/-- The row engine's phase (R125). -/
inductive RowPhase where
  | idle
  | leadIn
  | frame
  deriving DecidableEq, Repr

/-- A command on the sensor port (section 8.2). -/
inductive SensorCommand where
  | reset (row : Nat)
  | read (row : Nat)
  | gain (code : Nat)
  deriving DecidableEq, Repr

/-- The plan of the frame now running (R125). -/
structure Plan where
  frame : FrameNo
  time : Nat
  gain : Nat
  arrayExv : Nat
  deriving DecidableEq, Repr

/-- The row whose READ has been issued, and the slot whose end is its deadline (R128). -/
structure PendingRow where
  row : Nat
  deadline : Nat
  deriving DecidableEq, Repr

/-- A delivery not yet completed (R135). -/
structure Delivery where
  tag : List Pixel
  count : Nat
  pixels : List Pixel
  deriving DecidableEq, Repr

/-- The state of the row engine and of the sensor port it feeds (R125, R126). -/
structure RowEngine where
  phase : RowPhase
  current : Option Plan
  /-- E′. -/
  nextTime : Option Nat
  catchUp : List Nat
  pendingRow : Option PendingRow
  discardRow : Option Nat
  delivery : Option Delivery
  faultCount : Nat
  irregular : Bool
  tailOffered : Bool
  queue : List SensorCommand
  /-- The word last begun on SC_CMD (R126; log entry 22). -/
  sending : Option (BitVec 16)
  /-- Row H - 1 was counted missing at the read end of this frame (R136; log entry 17). -/
  endRowMissed : Bool
  deriving DecidableEq, Repr

/-- R125, column power-on reset. -/
def RowEngine.powerOn : RowEngine where
  phase := .idle
  current := none
  nextTime := none
  catchUp := []
  pendingRow := none
  discardRow := none
  delivery := none
  faultCount := 0
  irregular := false
  tailOffered := false
  queue := []
  sending := none
  endRowMissed := false

/-! ### Output unit (R142) -/

/-- What a notice reports, with its slot and details (R153). -/
inductive NoticeBody where
  | stateChanged (old new : StationState) (cause : Cause)
  | peerJoined (slot : Nat) (expected : Bool) (nonce : Nonce)
  | peerLost (slot : Nat) (expected : Bool) (lastSeen : FrameNo)
  | slotBusy (slot : Nat) (nonce : Nonce) (joinCount : Nat)
  | idConflict (slot : Nat) (roundBit : Nat) (nonce : Nonce)
  | voidLimit (limit : Nat) (left : StationState)
  | markStall (patience : Nat) (left : StationState)
  | lineLow
  | lineFault (line : Line) (roundBit : Option Nat)
  | frameRenumbered (old new : FrameNo)
  | standingAdopted (old new : Nat)
  | quorumLost (rollSize quorum : Nat)
  | quorumRegained (rollSize quorum : Nat)
  deriving DecidableEq, Repr

/-- A notice as created: its frame number and what it reports (R153). -/
structure Notice where
  frame : FrameNo
  body : NoticeBody
  deriving DecidableEq, Repr

/-- A HEAD (R144). -/
structure HeadRecord where
  frame : FrameNo
  entry : Entry
  lag : Nat
  skipped : Nat
  station : StationState
  quorumMet : Bool
  deriving DecidableEq, Repr

/-- A ROW (R146). -/
structure RowRecord where
  frame : FrameNo
  row : Nat
  pixels : List Pixel
  deriving DecidableEq, Repr

/-- A TAIL (R147). -/
structure TailRecord where
  frame : FrameNo
  delivered : Nat
  dropped : Nat
  faults : Nat
  meterValid : Bool
  percentileBin : Option Nat
  clip : Nat
  cut : Bool
  stopped : Bool
  irregular : Bool
  deriving DecidableEq, Repr

/-- A record of the output stream (chapter 9). A NOTICE carries the lost count it took (R152). -/
inductive StreamRecord where
  | head (h : HeadRecord)
  | row (r : RowRecord)
  | tail (t : TailRecord)
  | notice (n : Notice) (lost : Nat)
  deriving DecidableEq, Repr

/-- Whether a frame is open in the stream (R142). -/
inductive StreamPosition where
  | gap
  | opened
  deriving DecidableEq, Repr

/-- The admission of the frame now running (R142). -/
inductive Admission where
  | none
  | admitted
  | skipped
  deriving DecidableEq, Repr

/-- The state of the output unit (R142). -/
structure OutputUnit where
  queue : List StreamRecord
  controlHeld : Nat
  rowsHeld : Nat
  pixelsHeld : Nat
  position : StreamPosition
  admission : Admission
  delivered : Nat
  dropped : Nat
  skip : Nat
  notices : List Notice
  lost : Nat
  /-- Emission: how many words of the front record have been accepted. -/
  accepted : Nat
  deriving DecidableEq, Repr

/-- R142, column power-on reset. -/
def OutputUnit.powerOn : OutputUnit where
  queue := []
  controlHeld := 0
  rowsHeld := 0
  pixelsHeld := 0
  position := .gap
  admission := .none
  delivered := 0
  dropped := 0
  skip := 0
  notices := []
  lost := 0
  accepted := 0

/-! ### Control port (R155) -/

/-- The result of the last complete transaction (R155). -/
inductive CommandResult where
  | ok
  | refusedRunning
  | badItem
  | badValue
  | configError
  deriving DecidableEq, Repr

/-- The eight counters (R164). -/
structure Counters where
  cleanRounds : Nat
  voidRounds : Nat
  markStalls : Nat
  framesSkipped : Nat
  rowsDropped : Nat
  rowFaults : Nat
  driveFaults : Nat
  noticesLost : Nat
  deriving DecidableEq, Repr

/-- All counters 0 (R155, R164). -/
def Counters.zero : Counters := ⟨0, 0, 0, 0, 0, 0, 0, 0⟩

/-- An open read: what it received, what it returns, and what completes with its last data byte
(R155 to R158, R163). -/
structure Transaction where
  received : List Byte
  word : Word
  answer : CommandResult
  /-- READ_STATUS, whose last data byte clears the attention flag (R163). -/
  clearsAttention : Bool
  /-- A notice has been created since the word was taken (R163). -/
  noticeSince : Bool
  deriving DecidableEq, Repr

/-- Whether the port takes transactions (R165). -/
inductive PortMode where
  | heldIdle
  | awaitSelHigh
  | ready
  deriving DecidableEq, Repr

/-- The state of the control port (R155, R165). -/
structure ControlPort where
  mode : PortMode
  items : Items
  result : CommandResult
  startError : StartError
  counters : Counters
  attention : Bool
  transaction : Option Transaction
  deriving DecidableEq, Repr

/-- R155, column power-on reset; `mode` is where R165 has the port. -/
def ControlPort.powerOn (mode : PortMode) : ControlPort where
  mode := mode
  items := .default
  result := .ok
  startError := .none
  counters := .zero
  attention := false
  transaction := none

end Sys2Proof.Machine
end

