-- ==== Sys2Proof/Machine/State.lean ====
section
/-! DEFINITION. The state of the part, block by block, the reasons a step can stop, and reset. -/

namespace Sys2Proof.Machine

/-- The state of the part: one field for each owning block (00_scope.md section 3), then the model's own
two fields. Plain data. -/
structure State where
  /-- Tally interface (R2). -/
  line : TallyInterface
  /-- Round engine (R19). -/
  round : RoundEngine
  /-- Station controller (R79). -/
  station : StationController
  /-- Frame timer (R62). -/
  timer : FrameTimer
  /-- Roster (R97): 32 records by slot. -/
  roster : List PeerRecord
  /-- Agreement unit (R42). -/
  agree : AgreementUnit
  /-- Exposure schedule (R54). -/
  schedule : List Entry
  /-- Meter (R111). -/
  meter : Meter
  /-- Row engine and sensor port (R125). -/
  rows : RowEngine
  /-- Output unit (R142). -/
  out : OutputUnit
  /-- Control port (R155). -/
  port : ControlPort
  /-- The model's own: how many free values have been used (log entry 7). -/
  freeCount : Nat
  /-- The commands that wait, first in, first out. -/
  pending : List Instr
  deriving DecidableEq, Repr

/-- Why the part stops: no reason. The spec names no event after which the part does not go on, so no
command raises a fault (INVENTORY.md, Faults). -/
inductive Fault where
  deriving DecidableEq, Repr

/-- Why a command has no meaning here. -/
inductive Refusal where
  /-- Raised by an arm of `exec` whose command is not modelled: none is left. Safe. -/
  | notModelled (mnemonic : String)
  deriving DecidableEq, Repr

/-- The part right after reset: every block at its power-on values, RESET_N risen and SEL_N high, so
that the control port takes transactions (R165; log entry 19). -/
def State.reset : State where
  line := .powerOn
  round := .powerOn
  station := .powerOn
  timer := .powerOn
  roster := clearedRoster
  agree := .powerOn
  schedule := []
  meter := .powerOn
  rows := .powerOn
  out := .powerOn
  port := .powerOn .ready
  freeCount := 0
  pending := []

end Sys2Proof.Machine
end

