-- ==== Sys2Proof/Machine/Ops.lean ====
section
/-! DEFINITION. The operations the commands share: replacing a block's state, creating notices, the
counters, holding and releasing the lines, and changing the station state. -/

namespace Sys2Proof.Machine

/-! ### One block replaced -/

/-- The state with another tally interface. -/
def State.withLine (s : State) (x : TallyInterface) : State := { s with line := x }
/-- The state with another round engine. -/
def State.withRound (s : State) (x : RoundEngine) : State := { s with round := x }
/-- The state with another station controller. -/
def State.withStation (s : State) (x : StationController) : State := { s with station := x }
/-- The state with another frame timer. -/
def State.withTimer (s : State) (x : FrameTimer) : State := { s with timer := x }
/-- The state with another roster. -/
def State.withRoster (s : State) (x : List PeerRecord) : State := { s with roster := x }
/-- The state with another agreement unit. -/
def State.withAgree (s : State) (x : AgreementUnit) : State := { s with agree := x }
/-- The state with another schedule. -/
def State.withSchedule (s : State) (x : List Entry) : State := { s with schedule := x }
/-- The state with another meter. -/
def State.withMeter (s : State) (x : Meter) : State := { s with meter := x }
/-- The state with another row engine. -/
def State.withRows (s : State) (x : RowEngine) : State := { s with rows := x }
/-- The state with another output unit. -/
def State.withOut (s : State) (x : OutputUnit) : State := { s with out := x }
/-- The state with another control port. -/
def State.withPort (s : State) (x : ControlPort) : State := { s with port := x }
/-- The state with another free-value counter. -/
def State.withFreeCount (s : State) (n : Nat) : State := { s with freeCount := n }
/-- The state with another queue of waiting commands. -/
def State.withPending (s : State) (q : List Instr) : State := { s with pending := q }

/-- The configuration items (R155). -/
abbrev State.items (s : State) : Items := s.port.items

/-! ### Counters (R164) -/

/-- The greatest value of a counter, where it stays (R164). -/
def counterTop : Nat := 4294967295

/-- Applies an update to the counters. -/
def State.count (s : State) (f : Counters → Counters) : State :=
  s.withPort { s.port with counters := f s.port.counters }

/-- One clean round more (R33). -/
def Counters.addClean (c : Counters) : Counters :=
  { c with cleanRounds := satSucc counterTop c.cleanRounds }
/-- One void round more (R33). -/
def Counters.addVoid (c : Counters) : Counters :=
  { c with voidRounds := satSucc counterTop c.voidRounds }
/-- One mark stall more (R69). -/
def Counters.addStall (c : Counters) : Counters :=
  { c with markStalls := satSucc counterTop c.markStalls }
/-- One skipped frame more (R145). -/
def Counters.addSkipped (c : Counters) : Counters :=
  { c with framesSkipped := satSucc counterTop c.framesSkipped }
/-- One dropped row more (R146). -/
def Counters.addDropped (c : Counters) : Counters :=
  { c with rowsDropped := satSucc counterTop c.rowsDropped }
/-- One row fault more (R138). -/
def Counters.addRowFault (c : Counters) : Counters :=
  { c with rowFaults := satSucc counterTop c.rowFaults }
/-- One drive fault more (R15, R16). -/
def Counters.addDriveFault (c : Counters) : Counters :=
  { c with driveFaults := satSucc counterTop c.driveFaults }
/-- One lost notice more (R150). -/
def Counters.addLostNotice (c : Counters) : Counters :=
  { c with noticesLost := satSucc counterTop c.noticesLost }

/-! ### Notices (R150) -/

/-- The most notices the list holds (R151). -/
def noticeCapacity : Nat := 8

/-- The attention flag is set, and an open status read learns that a notice was created (R150, R163). -/
def ControlPort.attend (p : ControlPort) : ControlPort :=
  { p with
    attention := true
    transaction := p.transaction.map fun t => { t with noticeSince := true } }

/-- One notice is created: kept at the end of the list, or discarded and counted as lost when the list
is full. Every creation sets the attention flag (R150). -/
def State.createNotice (s : State) (n : Notice) : State :=
  if s.out.notices.length < noticeCapacity then
    (s.withOut { s.out with notices := s.out.notices ++ [n] }).withPort s.port.attend
  else
    ((s.withOut { s.out with lost := satSucc 255 s.out.lost }).withPort s.port.attend).count
      Counters.addLostNotice

/-- Notices created one after another. -/
def State.createAll (s : State) (ns : List Notice) : State := ns.foldl State.createNotice s

/-- Takes the first notice of the k-th queue (counting from 0), with the queues after it. -/
def takeFrom : Nat → List (List Notice) → Option (Notice × List (List Notice))
  | _, [] => none
  | 0, (n :: q) :: qs => some (n, q :: qs)
  | 0, [] :: _ => none
  | k + 1, q :: qs => (takeFrom k qs).map fun r => (r.1, q :: r.2)

/-- An order in which the notices of several blocks reach the list (R150): each queue holds one block's
notices in that block's order, and a free value picks the next block while more than one still has
notices to hand over. `fuel` is the number of notices; `used` counts the free values used. -/
def mergeNotices : Nat → Nat → List (List Notice) → List Notice × Nat
  | 0, used, _ => ([], used)
  | fuel + 1, used, queues =>
    match queues.filter (fun q => !q.isEmpty) with
    | [] => ([], used)
    | [q] => (q, used)
    | q0 :: q1 :: qs =>
      let waiting := q0 :: q1 :: qs
      match takeFrom (Config.freeBlock used % waiting.length) waiting with
      | none => ([], used)
      | some (n, rest) =>
        let r := mergeNotices fuel (used + 1) rest
        (n :: r.1, r.2)

/-- The notices of one event, one queue for each creating block, enter the list in whichever order they
reach it (R150). DESIGN CHOICE (log entry 31): all of them are created before NOTICE_MOVE can move any
(R152), so those of one step beyond the list's 8 are lost. -/
def State.createMerged (s : State) (queues : List (List Notice)) : State :=
  let r := mergeNotices queues.flatten.length s.freeCount queues
  (s.withFreeCount r.2).createAll r.1

/-! ### Lines (R3, R4) -/

/-- The states in which the station may pull a line (R3). -/
def StationState.drives : StationState → Bool
  | .joining | .synced => true
  | .off | .listen | .barred => false

/-- The frame timer's request to hold MARK (R4): carried out only while the state allows it (R3); it
changes nothing while MARK is already pulled. While the station pulls MARK its reference is dominant
(R5). `atJoin` is kept for a mark at the instant of a join (log entry 32). -/
def State.holdMark (s : State) (atJoin : Option Level) : State :=
  if s.station.state.drives ∧ s.line.markDrive = .released then
    s.withLine { s.line with
      markDrive := .pulled
      holdClock := some 0
      markReference := some .dominant
      heldRead := .dominant
      referenceAtJoin := atJoin }
  else s

/-- MARK released (R4): nothing changes while it is released already. The reference then is the level
last read during the hold, so that a line that stays recessive shows no rise (R5). -/
def TallyInterface.releaseMark (l : TallyInterface) : TallyInterface :=
  match l.markDrive with
  | .released => l
  | .pulled => { l with
      markDrive := .released
      holdClock := none
      markReference := some l.heldRead }

/-- A hold that a join began gives way to the mark of the same instant: MARK is released, and no hold is
asked for until two bit times after the mark (R65, R71; log entry 32). -/
def TallyInterface.dropJoinHold (l : TallyInterface) : TallyInterface :=
  { l.releaseMark with referenceAtJoin := none }

/-- Both lines released (R3). -/
def TallyInterface.releaseBoth (l : TallyInterface) : TallyInterface :=
  { l.releaseMark with tallyDrive := .released }

/-! ### Station state (R79, R80) -/

/-- A transition: the join count and the void count become 0, and an entry to LISTEN or OFF sets the
listen count to 0 as well (R72, R79, R82). -/
def StationController.enter (c : StationController) (dest : StationState) : StationController :=
  { c with
    state := dest
    joinCount := 0
    voidCount := 0
    listenCount := if dest = .listen ∨ dest = .off then 0 else c.listenCount }

/-- The lines after a transition (R3): a station that leaves JOINING or SYNCED releases both. -/
def TallyInterface.follow (l : TallyInterface) (old new : StationState) : TallyInterface :=
  if old.drives ∧ ¬ new.drives then l.releaseBoth else l

/-- The STATE_CHANGED notice of a transition (R80). -/
def stateChangedNotice (frame : FrameNo) (old new : StationState) (cause : Cause) : Notice :=
  ⟨frame, .stateChanged old new cause⟩

/-- The station moves to another state, and the lines follow (R3, R79). -/
def State.moveStation (s : State) (dest : StationState) : State :=
  (s.withLine (s.line.follow s.station.state dest)).withStation (s.station.enter dest)

/-- The STATE_CHANGED notice for a move of this station from the state it is in (R80). -/
def State.movedNotice (s : State) (dest : StationState) (cause : Cause) : Notice :=
  stateChangedNotice s.timer.current s.station.state dest cause

end Sys2Proof.Machine
end

