-- ==== Sys2Proof/Machine/Flags.lean ====
section
/-! DEFINITION. What other blocks and the outside read of a block's state as a flag or a level. -/

namespace Sys2Proof.Machine

/-- "Quorum met" in the status read and in every head: only when the flag is MET (R42). -/
def AgreementUnit.quorumMet (a : AgreementUnit) : Bool := a.quorumFlag == .met

/-- The meter basis: propose and D of the latest result as it stands (R121, R123). Without a result the
indication is clear. -/
def Meter.basis (m : Meter) : MeterBasis :=
  match m.latest with
  | some r => ⟨r.propose, r.desired⟩
  | none => ⟨false, none⟩

/-- ATTN is high while the attention flag is set (R163). -/
def State.attn (s : State) : Bool := s.port.attention

/-- The slot now counting, in a frame or in the lead-in (R62). -/
def TimerPhase.slot : TimerPhase → Option Nat
  | .leadIn k | .counting k => some k
  | .idle | .wait _ => none

/-- The timer is counting the slots of a frame (R66). -/
def TimerPhase.isCounting : TimerPhase → Bool
  | .counting _ => true
  | .idle | .leadIn _ | .wait _ => false

/-- The part is active: every block but the control port and the output unit is idle in OFF
(R2, R19, R62, R125). -/
def State.active (s : State) : Bool := s.station.state != .off

/-- Control entries free (R143). -/
def OutputUnit.controlFree (o : OutputUnit) : Nat := 8 - o.controlHeld

/-- Whether the queue has room for a ROW of `w` pixels (R143, R146). -/
def OutputUnit.rowFits (o : OutputUnit) (w : Nat) : Bool :=
  o.rowsHeld + 1 ≤ 16 && o.pixelsHeld + w ≤ 16384

/-- The oldest notice can move: the stream is at GAP and 3 control entries are free (R152). -/
def OutputUnit.noticeCanMove (o : OutputUnit) : Bool :=
  o.position == .gap && (3 ≤ o.controlFree && !o.notices.isEmpty)

/-- The tally interface drives the open round at this moment: it took the round at its mark, has not
withdrawn, and its state allows it (R3, R7, R13). -/
def State.drivesNow (s : State) : Bool :=
  s.round.drove && (!s.line.withdrawn && s.station.state.drives)

end Sys2Proof.Machine
end

