-- ==== Sys2Proof/Machine/Operands.lean ====
section
/-! DEFINITION. The words of chapter 11: codes, output records, roster words, the status word, the
sensor command word, and what the pins carry from them. -/

namespace Sys2Proof.Machine

/-! ### Codes (R166, R168) -/

/-- Station state codes (R166). -/
def StationState.code : StationState → Nat
  | .off => 0
  | .listen => 1
  | .joining => 2
  | .synced => 3
  | .barred => 4

/-- Cause codes (R166). -/
def Cause.code : Cause → Nat
  | .start => 0
  | .stop => 1
  | .joined => 2
  | .synced => 3
  | .founded => 4
  | .markStall => 5
  | .voidLimit => 6
  | .idConflict => 7

/-- Source codes (R166). -/
def Source.code : Source → Nat
  | .agreed => 0
  | .kept => 1
  | .held => 2
  | .void => 3
  | .local => 4

/-- Line codes (R166). -/
def Line.code : Line → Nat
  | .tally => 0
  | .mark => 1

/-- Result codes (R168). -/
def CommandResult.code : CommandResult → Nat
  | .ok => 0
  | .refusedRunning => 1
  | .badItem => 2
  | .badValue => 3
  | .configError => 4

/-- Last START error codes (R168). -/
def StartError.code : StartError → Nat
  | .none => 0
  | .badGeometry => 1
  | .roundTooLong => 2
  | .badLadder => 3
  | .badWindow => 4
  | .badBands => 5

/-- Peer state codes (R168). -/
def PeerState.code : PeerState → Nat
  | .absent => 0
  | .present => 1
  | .missing => 2
  | .lost => 3

/-! ### Notices (R153, R166) -/

/-- Notice kind codes 1 to 13 (R166). -/
def NoticeBody.code : NoticeBody → Nat
  | .stateChanged .. => 1
  | .peerJoined .. => 2
  | .peerLost .. => 3
  | .slotBusy .. => 4
  | .idConflict .. => 5
  | .voidLimit .. => 6
  | .markStall .. => 7
  | .lineLow => 8
  | .lineFault .. => 9
  | .frameRenumbered .. => 10
  | .standingAdopted .. => 11
  | .quorumLost .. => 12
  | .quorumRegained .. => 13

/-- The slot a notice carries, by kind (R153). -/
def NoticeBody.slot : NoticeBody → Option Nat
  | .peerJoined s _ _ | .peerLost s _ _ | .slotBusy s _ _ | .idConflict s _ _ => some s
  | .stateChanged .. | .voidLimit .. | .markStall .. | .lineLow | .lineFault ..
  | .frameRenumbered .. | .standingAdopted .. | .quorumLost .. | .quorumRegained .. => none

/-- The first detail, by kind (R153, R166). -/
def NoticeBody.first : NoticeBody → Option Nat
  | .stateChanged old new _ => some (16 * old.code + new.code)
  | .peerJoined _ e _ => some e.toNat
  | .peerLost _ e _ => some e.toNat
  | .slotBusy _ n _ => some n.toNat
  | .idConflict _ b _ => some b
  | .voidLimit l _ => some l
  | .markStall p _ => some p
  | .lineLow => none
  | .lineFault l _ => some l.code
  | .frameRenumbered old _ => some old.toNat
  | .standingAdopted old _ => some old
  | .quorumLost n _ => some n
  | .quorumRegained n _ => some n

/-- The second detail, by kind (R153, R166). -/
def NoticeBody.second : NoticeBody → Option Nat
  | .stateChanged _ _ c => some c.code
  | .peerJoined _ _ n => some n.toNat
  | .peerLost _ _ f => some f.toNat
  | .slotBusy _ _ j => some j
  | .idConflict _ _ n => some n.toNat
  | .voidLimit _ st => some st.code
  | .markStall _ st => some st.code
  | .lineLow => none
  | .lineFault _ b => b
  | .frameRenumbered _ new => some new.toNat
  | .standingAdopted _ new => some new
  | .quorumLost _ q => some q
  | .quorumRegained _ q => some q

/-! ### Record words (R166, R167) -/

/-- The five words of a HEAD (R166). -/
def HeadRecord.words (h : HeadRecord) : List Word :=
  [ place 31 28 1 ||| place 27 25 h.entry.source.code ||| placeBit 24 h.quorumMet
      ||| place 23 21 h.station.code ||| placeBit 20 h.entry.agreeing.isSome
      ||| place 15 0 h.frame.toNat,
    place 27 16 h.entry.arrayExv ||| place 11 0 h.entry.localExv,
    place 31 26 h.entry.step ||| place 23 16 h.entry.gain ||| place 11 0 h.entry.time,
    slotMask (h.entry.agreeing.getD []),
    place 31 16 h.entry.deciding.toNat ||| place 15 8 h.lag ||| place 7 0 h.skipped ]

/-- The pixel words of a ROW: two pixels to a word, the even column in bits 25-16 (R166, R167). -/
def pixelWords : List Pixel → List Word
  | a :: b :: rest => (place 25 16 a.toNat ||| place 9 0 b.toNat) :: pixelWords rest
  | [a] => [place 25 16 a.toNat]
  | [] => []

/-- The 1 + W/2 words of a ROW (R166). -/
def RowRecord.words (r : RowRecord) : List Word :=
  (place 31 28 2 ||| place 27 16 r.row ||| place 15 0 r.frame.toNat) :: pixelWords r.pixels

/-- The four words of a TAIL (R166). -/
def TailRecord.words (t : TailRecord) : List Word :=
  [ place 31 28 3 ||| placeBit 27 t.meterValid ||| placeBit 26 t.percentileBin.isSome
      ||| place 25 22 (t.percentileBin.getD 0) ||| placeBit 21 t.cut ||| placeBit 20 t.stopped
      ||| placeBit 19 t.irregular ||| place 15 0 t.frame.toNat,
    place 27 16 t.delivered ||| place 11 0 t.dropped,
    place 31 16 t.faults,
    place 23 0 t.clip ]

/-- The four words of a NOTICE; an absent optional field is 0 with its presence bit clear
(R166, R167). -/
def noticeWords (n : Notice) (lost : Nat) : List Word :=
  [ place 31 28 4 ||| place 27 24 n.body.code ||| placeBit 23 n.body.slot.isSome
      ||| place 22 18 (n.body.slot.getD 0) ||| placeBit 17 n.body.first.isSome
      ||| placeBit 16 n.body.second.isSome ||| place 15 0 n.frame.toNat,
    place 31 0 (n.body.first.getD 0),
    place 31 0 (n.body.second.getD 0),
    place 7 0 lost ]

/-- The words of a record, in the order the port sends them (R149, R166). -/
def StreamRecord.words : StreamRecord → List Word
  | .head h => h.words
  | .row r => r.words
  | .tail t => t.words
  | .notice n lost => noticeWords n lost

/-- The control entries a record in the queue takes (R149). -/
def StreamRecord.controlEntries : StreamRecord → Nat
  | .head _ | .tail _ | .notice _ _ => 1
  | .row _ => 0

/-- The row entries a record in the queue takes (R149). -/
def StreamRecord.rowEntries : StreamRecord → Nat
  | .row _ => 1
  | .head _ | .tail _ | .notice _ _ => 0

/-- The pixels a record in the queue takes from the pixel store (R149). -/
def StreamRecord.pixelEntries : StreamRecord → Nat
  | .row r => r.pixels.length
  | .head _ | .tail _ | .notice _ _ => 0

/-! ### The output port's pins (R149) -/

/-- O_VALID: high while the queue holds a record (R149). -/
def OutputUnit.oValid (o : OutputUnit) : Bool := !o.queue.isEmpty

/-- OD: the current word, while O_VALID is high (R149). -/
def OutputUnit.od (o : OutputUnit) : Option Word :=
  o.queue.head?.bind fun r => r.words[o.accepted]?

/-- O_FIRST: high with the first word of each record (R149). -/
def OutputUnit.oFirst (o : OutputUnit) : Bool := o.oValid && o.accepted == 0

/-! ### Words of the control port (R168) -/

/-- The result byte of a transaction's first byte time (R157, R168); SDO returns zero while RESET_N is
low (R165). -/
def ControlPort.firstByte (p : ControlPort) : Byte :=
  match p.mode with
  | .heldIdle => 0
  | .awaitSelHigh | .ready => BitVec.ofNat 8 p.result.code

/-- The data bytes an open read returns, most significant first (R157). -/
def ControlPort.dataWord (p : ControlPort) : Option Word := p.transaction.map (·.word)

/-- The byte SDO returns in the k-th byte time, from 0, after the byte that the port acted on: the data
bytes of an open read, most significant first (R157), and zero after the last byte of a complete
transaction (R156). A port held by a reset has no transaction and returns zero (R165). -/
def ControlPort.sdoByte (p : ControlPort) (k : Nat) : Byte :=
  match p.transaction with
  | some r => (bytesOfWord r.word).getD k 0
  | none => 0

/-- The status word (R163, R168). -/
def State.statusWord (s : State) : Word :=
  place 31 29 s.station.state.code ||| placeBit 28 (s.meter.state == .settled)
    ||| placeBit 27 s.agree.holdRequest ||| placeBit 26 s.agree.quorumMet
    ||| place 25 23 s.port.startError.code ||| placeBit 22 s.port.attention

/-- The record word of a slot (R108, R168). -/
def rosterRecordWord (it : Items) (slot : Nat) (p : PeerRecord) : Word :=
  place 31 30 p.state.code ||| place 29 27 p.missCount ||| placeBit 26 p.seen.isSome
    ||| placeBit 25 (slot == it.slot) ||| placeBit 24 (it.expectedSet.getLsbD slot)
    ||| place 23 20 ((p.seen.map fun v => v.nonce.toNat).getD 0)
    ||| place 15 0 ((p.seen.map fun v => v.lastSeen.toNat).getD 0)

/-- The arrival word of a slot (R108, R168). -/
def rosterArrivalWord (p : PeerRecord) : Word :=
  placeBit 16 p.seen.isSome ||| place 15 0 ((p.seen.map fun v => v.arrival.toNat).getD 0)

/-- The summary word of a peer state: bit s set when slot s's record is in that state (R109, R168). -/
def rosterSummaryWord (roster : List PeerRecord) (st : PeerState) : Word :=
  slotMask ((List.range 32).filter fun s => (roster[s]?.map (·.state)) == some st)

/-- The word READ_ROSTER answers, or none for the indices it answers BAD_ITEM (R108, R109). -/
def rosterWord (it : Items) (roster : List PeerRecord) (index : Nat) : Option Word :=
  if index < 32 then some (rosterRecordWord it index (roster.getD index .cleared))
  else if index < 64 then some (rosterArrivalWord (roster.getD (index - 32) .cleared))
  else if index = 64 then some (rosterSummaryWord roster .present)
  else if index = 65 then some (rosterSummaryWord roster .missing)
  else if index = 66 then some (rosterSummaryWord roster .lost)
  else none

/-- The counters in the order of their indices E0h to E7h (R164, R168). -/
def Counters.toList (c : Counters) : List Nat :=
  [c.cleanRounds, c.voidRounds, c.markStalls, c.framesSkipped, c.rowsDropped, c.rowFaults,
   c.driveFaults, c.noticesLost]

/-- The word READ_ITEM answers, or none for an index that names no item (R158, R168). -/
def ControlPort.itemWord (p : ControlPort) (index : Nat) : Option Word :=
  if 0xE0 ≤ index ∧ index < 0xE8 then
    (p.counters.toList[index - 0xE0]?).map fun n => place 31 0 n
  else p.items.word index

/-! ### The sensor port (R126, R170) -/

/-- The 16-bit command word (R170). -/
def SensorCommand.word : SensorCommand → BitVec 16
  | .reset row => BitVec.ofNat 16 (0 * 2 ^ 14 + row % 2 ^ 11)
  | .read row => BitVec.ofNat 16 (1 * 2 ^ 14 + row % 2 ^ 11)
  | .gain code => BitVec.ofNat 16 (2 * 2 ^ 14 + code % 2 ^ 8)

/-- SC_CMD and SC_STB over the sixteen clock periods of a word: most significant bit first, the strobe
with the first bit only (R126). -/
def sensorWaveform (w : BitVec 16) : List (Bool × Bool) :=
  (List.range 16).map fun i => (w.getLsbD (15 - i), i == 0)

end Sys2Proof.Machine
end

