-- ==== Sys2Proof/Machine/Lines.lean ====
section
/-! DEFINITION. The shared lines bit by bit: the wired-AND, the layout of a round, the contest rules, and
the level a driver puts into each bit. -/

namespace Sys2Proof.Machine

/-! ### The wired-AND (R1) -/

/-- The level that a drive alone puts on a line (R1). -/
def levelOfDrive : Drive → Level
  | .pulled => .dominant
  | .released => .recessive

/-- The drive that puts a level on a line; no station drives a line high (R1). -/
def driveOfLevel : Level → Drive
  | .dominant => .pulled
  | .recessive => .released

/-- What every station reads on a line: dominant if any station drives it dominant, else recessive
(R1). -/
def wiredAnd (drives : List Level) : Level :=
  if drives.contains .dominant then .dominant else .recessive

/-! ### Contest fields (R10 to R12) -/

/-- What a contending station drives in a value bit: its bit while its standing is IN, recessive from
the bit after it was lost or faulted (R10). -/
def contestDrive (standing : FieldStanding) (b : Bool) : Level :=
  match standing with
  | .inField => levelOfBit b
  | .lost | .faulted => .recessive

/-- The standing after a bit of the field, from what the station drove and what it read (R10). -/
def contestAfter (standing : FieldStanding) (drove read : Level) : FieldStanding :=
  match standing, drove, read with
  | .inField, .recessive, .dominant => .lost
  | .inField, .dominant, .recessive => .faulted
  | st, _, _ => st

/-- A MIN contest among stations on one sound line, each given by its standing and its value: the levels
read, most significant bit first, and the standings after it (R1, R10). -/
def contestRun : Nat → List (FieldStanding × Nat) → List Level × List FieldStanding
  | 0, cs => ([], cs.map (·.1))
  | k + 1, cs =>
    let line := wiredAnd (cs.map fun c => contestDrive c.1 (c.2.testBit k))
    let r := contestRun k
      (cs.map fun c => (contestAfter c.1 (contestDrive c.1 (c.2.testBit k)) line, c.2))
    (line :: r.1, r.2)

/-- The value read in a MIN contest field of `width` bits among stations that all start IN (R10). -/
def minContestRead (width : Nat) (offers : List Nat) : Nat :=
  levelsToNat (contestRun width (offers.map fun v => (.inField, v))).1

/-- The value read in a MAX contest: each station drives the ones' complement of its value, and the
complement of what is read is the value (R11). -/
def maxContestRead (width : Nat) (offers : List Nat) : Nat :=
  2 ^ width - 1 - minContestRead width (offers.map fun v => 2 ^ width - 1 - v)

/-! ### The round bit map (R18, section 11.1) -/

/-- The number of bits of a round (R18). -/
def roundBits : Nat := 226

/-- What a round bit carries. `k` is the significance of a value bit: k = 0 is sent last. -/
inductive FieldBit where
  | lead
  | presence (slot : Nat)
  | nonce (slot k : Nat)
  | nextFrame (k : Nat)
  | hold
  | standingPresence
  | standing (k : Nat)
  | lowPresence
  | low (k : Nat)
  | highPresence
  | high (k : Nat)
  | check (k : Nat)
  | void
  deriving DecidableEq, Repr

/-- The round bit map (R18, section 11.1). -/
def fieldBit (i : Nat) : FieldBit :=
  if i = 0 then .lead
  else if i ≤ 160 then
    if (i - 1) % 5 = 0 then .presence ((i - 1) / 5) else .nonce ((i - 1) / 5) (4 - (i - 1) % 5)
  else if i ≤ 176 then .nextFrame (176 - i)
  else if i = 177 then .hold
  else if i = 178 then .standingPresence
  else if i ≤ 190 then .standing (190 - i)
  else if i = 191 then .lowPresence
  else if i ≤ 203 then .low (203 - i)
  else if i = 204 then .highPresence
  else if i ≤ 216 then .high (216 - i)
  else if i ≤ 224 then .check (224 - i)
  else .void

/-- The first bit of each field of R18; there the field standing becomes IN (R2). A presence-led field
starts at its presence bit, so a fault there lasts to the end of the field (R12; log entry 14). -/
def isFieldStart (i : Nat) : Bool := [0, 1, 161, 177, 178, 191, 204, 217, 225].contains i

/-- Whether a bit lies in the group of a slot (R22). -/
def FieldBit.inSlot (slot : Nat) : FieldBit → Bool
  | .presence s => s == slot
  | .nonce s _ => s == slot
  | _ => false

/-- Whether a driver with these offers contends in the bit's field (R12, R20): only there does a bit
read otherwise than driven change its standing. -/
def Offers.contends (o : Offers) : FieldBit → Bool
  | .nextFrame _ | .standingPresence | .standing _ => o.synced
  | .lowPresence | .low _ | .highPresence | .high _ => o.proposal.isSome
  | .lead | .presence _ | .nonce _ _ | .hold | .check _ | .void => false

/-- The level a station that drives the round puts into a bit (R18, R20, R22, R26 to R32): recessive
in every bit of a field in which it has nothing to offer. -/
def driveLevel (slot : Nat) (r : RoundEngine) (o : Offers) (standing : FieldStanding) :
    FieldBit → Level
  | .lead => .dominant
  | .presence s => if s = slot then .dominant else .recessive
  | .nonce s k =>
    if s = slot then levelOfBit ((r.roundNonce.getD 0).getLsbD k) else .recessive
  | .nextFrame k =>
    if o.synced then contestDrive standing (!(o.nextFrame.getD 0).getLsbD k) else .recessive
  | .hold => if o.synced && o.hold then .dominant else .recessive
  | .standingPresence => if o.synced then .dominant else .recessive
  | .standing k => if o.synced then contestDrive standing (o.standing.testBit k) else .recessive
  | .lowPresence => if o.proposal.isSome then .dominant else .recessive
  | .low k =>
    match o.proposal with
    | some d => contestDrive standing (d.testBit k)
    | none => .recessive
  | .highPresence => if o.proposal.isSome then .dominant else .recessive
  | .high k =>
    match o.proposal with
    | some d => contestDrive standing (!d.testBit k)
    | none => .recessive
  | .check k => levelOfBit (r.checkRegister.getLsbD k)
  | .void => if r.voidVote then .dominant else .recessive

/-! ### What a round's bits carry (R22, R26 to R32) -/

/-- The value read in a MIN or plain field (R10). -/
def valueRead (bits : List Level) (start len : Nat) : Nat := levelsToNat (readBits bits start len)

/-- The value read in a MAX field: the complement of the levels (R11). -/
def maxValueRead (bits : List Level) (start len : Nat) : Nat :=
  levelsToNat ((readBits bits start len).map flipLevel)

/-- The roll: each slot whose presence bit read dominant, with the nonce read, ascending by slot
(R22). -/
def rollOf (bits : List Level) : List (Nat × Nonce) :=
  (List.range 32).filterMap fun s =>
    if bitAt bits (1 + 5 * s) = .dominant then
      some (s, BitVec.ofNat 4 (valueRead bits (2 + 5 * s) 4))
    else none

/-- The check value read in bits 217 to 224 (R31). -/
def checkRead (bits : List Level) : BitVec 8 := BitVec.ofNat 8 (valueRead bits 217 8)

/-- A presence-led field's value: absent when its presence bit read recessive (R12). -/
def ledValue (bits : List Level) (presence value : Nat) (held : Bool) : Option (Nat × Bool) :=
  if bitAt bits presence = .dominant then some (value, held) else none

end Sys2Proof.Machine
end

