-- ==== Sys2Proof/Machine/Agreement.lean ====
section
/-! DEFINITION. The agreement unit and the exposure schedule (chapter 3): what they do with a round
record, and the three things the schedule does at a frame start. -/

namespace Sys2Proof.Machine

/-! ### Ladder and offset (R52) -/

/-- The local EXV: array EXV plus offset, clamped (R52). -/
def Items.localExv (it : Items) (exv : Nat) : Nat := (clampInt (exv + it.offset) 0 4095).toNat

/-- The step with the greatest threshold not greater than the local EXV, with its index, among steps
given with the index of the first; `best` is the step found so far (R52). -/
def ladderSearch (loc : Nat) : Nat → Nat × LadderStep → List LadderStep → Nat × LadderStep
  | _, best, [] => best
  | i, best, st :: rest =>
    ladderSearch loc (i + 1)
      (if st.threshold ≤ loc ∧ best.2.threshold ≤ st.threshold then (i, st) else best) rest

/-- The ladder lookup of R52 over the steps in use. -/
def Items.ladderLookup (it : Items) (loc : Nat) : Nat × LadderStep :=
  match it.stepsInUse with
  | st :: rest => ladderSearch loc 1 (0, st) rest
  | [] => (0, ⟨0, 1, 0⟩)

/-- A schedule entry, its local EXV, step, time and gain computed under R52 (R53). -/
def makeEntry (it : Items) (target deciding : FrameNo) (source : Source) (exv : Nat)
    (agreeing : Option (List Nat)) : Entry :=
  let loc := it.localExv exv
  let step := it.ladderLookup loc
  { target := target, source := source, arrayExv := exv, localExv := loc, step := step.1,
    time := step.2.time, gain := step.2.gain, deciding := deciding, agreeing := agreeing }

/-! ### The array EXV of an entry (R49, R50) -/

/-- S moved toward a wanted value by at most the step limit: S + clamp(x - S, -limit, +limit)
(R49, R50). -/
def stepToward (limit S wanted : Nat) : Nat :=
  (S + clampInt (wanted - S) (-limit) limit : Int).toNat

/-- The array EXV of a LOCAL entry (R49). -/
def localValue (it : Items) (S : Nat) (hold : Bool) (basis : MeterBasis) : Nat :=
  match hold, basis.propose, basis.desired with
  | false, true, some d => stepToward it.stepLimit S d
  | _, _, _ => S

/-- The target value P from the proposals present, by the policy; none when neither is present (R50). -/
def policyTarget (p : Policy) (low high : Option Nat) : Option Nat :=
  match low, high with
  | some l, some h =>
    match p with
    | .highlight => some l
    | .shadow => some h
    | .span => some ((l + h) / 2)
  | some l, none => some l
  | none, some h => some h
  | none, none => none

/-! ### A window close (R44 to R48) -/

/-- The record shows the station drove the round and it came out CLEAN (R44, R47, R76, R88). -/
def RoundRecord.drivenClean (r : RoundRecord) : Bool := r.drove && r.outcome == some .clean

/-- S after adoption: the standing value read in a CLEAN driven round (R44), or in a HEARD round at a
station that is not BARRED (R45). -/
def adoptedStanding (barred : Bool) (r : RoundRecord) (S : Nat) : Nat :=
  if r.drivenClean || (r.outcome == some .heard && !barred) then (r.standing.map (·.1)).getD S else S

/-- STANDING_ADOPTED, when the value adopted differs from S (R44). -/
def adoptionNotices (r : RoundRecord) (old new : Nat) : List Notice :=
  if new = old then [] else [⟨r.frame, .standingAdopted old new⟩]

/-- The size of the record's roll set (R47). -/
def RoundRecord.rollSize (r : RoundRecord) : Nat := (r.roll.getD []).length

/-- The round meets quorum (R47). -/
def RoundRecord.meetsQuorum (it : Items) (r : RoundRecord) : Bool := it.quorum ≤ r.rollSize

/-- The quorum flag after a CLEAN driven round; other records do not touch it (R47). -/
def quorumAfter (it : Items) (r : RoundRecord) (flag : QuorumFlag) : QuorumFlag :=
  if r.drivenClean then (if r.meetsQuorum it then .met else .notMet) else flag

/-- QUORUM_LOST and QUORUM_REGAINED by the table of R47. -/
def quorumNotices (it : Items) (r : RoundRecord) (old new : QuorumFlag) : List Notice :=
  match old, new with
  | .met, .notMet => [⟨r.frame, .quorumLost r.rollSize it.quorum⟩]
  | .notMet, .met => [⟨r.frame, .quorumRegained r.rollSize it.quorum⟩]
  | _, _ => []

/-- The source of the entry of a window close, by the first matching case of R48. -/
def entrySource (it : Items) (r : RoundRecord) : Source :=
  if !r.drove then .local
  else match r.outcome with
    | some .void => .void
    | some .clean =>
      if !r.meetsQuorum it then .local
      else if r.hold == some .dominant then .held
      else if r.low.isNone && r.high.isNone then .kept
      else .agreed
    | some .heard | some .unheard | none => .local

/-- The array EXV of the entry, from S after adoption (R48 to R50). -/
def entryValue (it : Items) (r : RoundRecord) (S : Nat) : Nat :=
  match entrySource it r with
  | .local => localValue it S r.holdRequest r.basis
  | .agreed =>
    match policyTarget it.policy (r.low.map (·.1)) (r.high.map (·.1)) with
    | some p => stepToward it.stepLimit S p
    | none => S
  | .void | .held | .kept => S

/-- The agreeing set: the roll set, for AGREED, KEPT and HELD entries only (R50, R53). -/
def entryAgreeing (it : Items) (r : RoundRecord) : Option (List Nat) :=
  match entrySource it r with
  | .agreed | .kept | .held => some ((r.roll.getD []).map (·.1))
  | .void | .local => none

/-- The entry of a window close: target is the record's frame plus 2 (R48, R56). -/
def closeEntry (it : Items) (r : RoundRecord) (S : Nat) : Entry :=
  makeEntry it (r.frame + 2) r.frame (entrySource it r) (entryValue it r S) (entryAgreeing it r)

/-- S after an entry: its array EXV if AGREED or LOCAL, else unchanged (R46). -/
def standingAfter (e : Entry) (S : Nat) : Nat :=
  match e.source with
  | .agreed | .local => e.arrayExv
  | .kept | .held | .void => S

/-- What a window close does to the agreement unit, the schedule and the notices, in the order of R48.
An incomplete record makes no entry (R36, R48). -/
def agreementClose (it : Items) (barred : Bool) (r : RoundRecord) (a : AgreementUnit)
    (schedule : List Entry) : AgreementUnit × List Entry × List Notice :=
  let S := adoptedStanding barred r a.standing
  let flag := quorumAfter it r a.quorumFlag
  let notices := adoptionNotices r a.standing S ++ quorumNotices it r a.quorumFlag flag
  if r.incomplete then ({ a with standing := S, quorumFlag := flag }, schedule, notices)
  else
    let e := closeEntry it r S
    ({ a with standing := standingAfter e S, quorumFlag := flag }, schedule ++ [e], notices)

/-! ### A frame start (R55, R57 to R59) -/

/-- The two primed entries of START (R55). -/
def primedSchedule (it : Items) : List Entry :=
  [makeEntry it 0 65535 .local it.initialExv none, makeEntry it 1 65535 .local it.initialExv none]

/-- The entry of a cut append: LOCAL, for the ended frame's number plus 2 (R58). -/
def cutEntry (it : Items) (ended : FrameNo) (S : Nat) (hold : Bool) (basis : MeterBasis) : Entry :=
  makeEntry it (ended + 2) ended .local (localValue it S hold basis) none

/-- Retargeting: d added to the target, the rest unchanged (R59). -/
def Entry.retarget (d : FrameNo) (e : Entry) : Entry := { e with target := e.target + d }

/-- The schedule at a frame start (R57): retirement of the first entry if a frame ended, the cut append,
and retargeting by d, which is 0 without a renumbering. -/
def scheduleFrameStart (frameEnded : Bool) (appended : Option Entry) (d : FrameNo)
    (schedule : List Entry) : List Entry :=
  let kept := if frameEnded then schedule.tail else schedule
  (kept ++ appended.toList).map (Entry.retarget d)

end Sys2Proof.Machine
end

