-- ==== Sys2Proof/Machine/Metering.lean ====
section
/-! DEFINITION. The meter (chapter 7): the window, the bins, the result of a frame and the meter state. -/

namespace Sys2Proof.Machine

/-- Whether a position is one of first, first + step, ... up to last (R112). -/
def sampled (first last step x : Nat) : Bool := first ≤ x && x ≤ last && (x - first) % step == 0

/-- A window row (R112). -/
def Items.isWindowRow (it : Items) (row : Nat) : Bool := sampled it.r0 it.r1 it.subsample row

/-- A window column (R112). -/
def Items.isWindowColumn (it : Items) (col : Nat) : Bool := sampled it.c0 it.c1 it.subsample col

/-- The number of window rows (R112). -/
def Items.windowRowCount (it : Items) : Nat := (it.r1 - it.r0) / it.subsample + 1

/-- The bin of a pixel value (R115). -/
def binOf (v : Nat) : Nat :=
  if v ≤ 15 then 0 else if v ≤ 22 then 1 else if v ≤ 31 then 2 else if v ≤ 44 then 3
  else if v ≤ 63 then 4 else if v ≤ 90 then 5 else if v ≤ 127 then 6 else if v ≤ 180 then 7
  else if v ≤ 255 then 8 else if v ≤ 361 then 9 else if v ≤ 511 then 10 else if v ≤ 723 then 11
  else if v ≤ 1019 then 12 else 13

/-- One sample counted (R115). -/
def addSample (bins : List Nat) (v : Nat) : List Nat := bins.modify (binOf v) (· + 1)

/-- The samples of a window row: the pixels at its window columns (R112). -/
def rowSamples (it : Items) (pixels : List Pixel) : List Nat :=
  ((List.range pixels.length).zip pixels).filterMap fun p =>
    if it.isWindowColumn p.1 then some p.2.toNat else none

/-- The meter takes an accepted row: looked at only in COLLECTING and only if a window row (R115). -/
def Meter.takeRow (it : Items) (row : Nat) (pixels : List Pixel) (m : Meter) : Meter :=
  match m.phase with
  | .collecting =>
    if it.isWindowRow row then
      let vs := rowSamples it pixels
      { m with
        windowRows := m.windowRows + 1
        bins := vs.foldl addSample m.bins
        samples := m.samples + vs.length }
    else m
  | .idle | .done => m

/-- A frame start reaches the meter (R114). -/
def Meter.startFrame (frame : FrameNo) (exv : Nat) (m : Meter) : Meter :=
  { m with
    phase := .collecting
    frame := some (frame, exv)
    bins := emptyBins
    samples := 0
    windowRows := 0 }

/-- The first bin, counted from `i`, at which the running total reaches k (R118). -/
def percentileWalk (k : Nat) : Nat → Nat → List Nat → Nat
  | i, _, [] => i - 1
  | i, total, b :: rest => if k ≤ total + b then i else percentileWalk k (i + 1) (total + b) rest

/-- The percentile bin, when N is at least 1 (R118). -/
def percentileBin (p n : Nat) (bins : List Nat) : Option Nat :=
  if n = 0 then none else some (percentileWalk ((p * n + 63) / 64) 0 0 bins)

/-- The count of bin 13 (R111). -/
def clipCount (bins : List Nat) : Nat := bins.getD 13 0

/-- The error after the clip rule (R118). -/
def meterError (it : Items) (n : Nat) (bins : List Nat) (bin : Nat) : Int :=
  let e : Int := (it.targetBin : Int) - (bin : Int)
  if clipCount bins * 64 > it.clipLimit * n ∧ 0 ≤ e then -1 else e

/-- The desired value of a valid result (R118). -/
def desiredValue (it : Items) (exv : Nat) (e : Int) : Nat :=
  (clampInt (exv + 8 * e + it.bias) 0 4095).toNat

/-- The result is valid: enough samples, every window row accepted, neither cut nor stopped (R117). -/
def Meter.resultValid (it : Items) (endedEarly : Bool) (m : Meter) : Bool :=
  !endedEarly && it.minSamples ≤ m.samples && m.windowRows == it.windowRowCount

/-- The meter state and the settle counter after a result; `error` is absent for an invalid result
(R120). -/
def settleAfter (it : Items) (st : MeterState) (settle : Nat) (error : Option Int) :
    MeterState × Nat :=
  match error, st with
  | none, st => (st, 0)
  | some e, .seeking =>
    if e.natAbs ≤ it.innerBand then
      (if settle + 1 < it.settleCount then (.seeking, settle + 1) else (.settled, 0))
    else (.seeking, 0)
  | some e, .settled => if e.natAbs ≤ it.outerBand then (.settled, 0) else (.seeking, 0)

/-- The frame's result (R117 to R119, R122). -/
def Meter.result (it : Items) (endedEarly : Bool) (m : Meter) : MeterResult :=
  let valid := m.resultValid it endedEarly
  let bin := percentileBin it.percentile m.samples m.bins
  let error := if valid then bin.map (meterError it m.samples m.bins) else none
  let exv := (m.frame.map (·.2)).getD 0
  let after := (settleAfter it m.state m.settle error).1
  { frame := (m.frame.map (·.1)).getD 0
    arrayExv := exv
    samples := m.samples
    bins := m.bins
    valid := valid
    percentileBin := bin
    error := error
    desired := error.map (desiredValue it exv)
    stateAfter := after
    propose := valid && after == .seeking }

/-- The meter finalises: the result becomes the latest, the state and counter are updated, and the phase
becomes DONE (R117, R119, R120). -/
def Meter.finalise (it : Items) (endedEarly : Bool) (m : Meter) : Meter :=
  let r := m.result it endedEarly
  let after := settleAfter it m.state m.settle r.error
  { m with phase := .done, latest := some r, state := after.1, settle := after.2 }

/-- A read end, or a cut or STOP before it, finalises in COLLECTING only (R117, R119, R124). -/
def Meter.endFrame (it : Items) (endedEarly : Bool) (m : Meter) : Meter :=
  match m.phase with
  | .collecting => m.finalise it endedEarly
  | .idle | .done => m

/-- STOP (R119, R120, R124): an invalid result for a frame in COLLECTING, then IDLE with the settle
counter 0. -/
def Meter.stop (it : Items) (m : Meter) : Meter :=
  { m.endFrame it true with phase := .idle, settle := 0 }

end Sys2Proof.Machine
end

