-- ==== Sys2Proof/Machine/Stream.lean ====
section
/-! DEFINITION. The output unit (chapter 9): offering HEADs, ROWs and TAILs, moving notices, and sending
words; with the meanings of the two commands of the stream. -/

namespace Sys2Proof.Machine

/-- A HEAD is offered at a frame start: admitted if 2 control entries are free, with an entry reserved
for its TAIL and the skip counter as its frames skipped; else the frame is skipped (R144, R145). -/
def State.offerHead (s : State) (e : Entry) : State :=
  let o := s.out
  if 2 ≤ o.controlFree then
    let h : HeadRecord :=
      { frame := s.timer.current, entry := e, lag := s.timer.markLag, skipped := o.skip
        station := s.station.state, quorumMet := s.agree.quorumMet }
    s.withOut { o with
      queue := o.queue ++ [.head h]
      controlHeld := o.controlHeld + 2
      position := .opened
      admission := .admitted
      delivered := 0
      dropped := 0
      skip := 0 }
  else
    (s.withOut { o with admission := .skipped, skip := satSucc 255 o.skip }).count
      Counters.addSkipped

/-- An accepted row is offered (R146). -/
def State.offerRow (s : State) (row : Nat) (pixels : List Pixel) : State :=
  let o := s.out
  match o.admission with
  | .admitted =>
    if o.rowFits pixels.length then
      s.withOut { o with
        queue := o.queue ++ [.row ⟨s.timer.current, row, pixels⟩]
        rowsHeld := o.rowsHeld + 1
        pixelsHeld := o.pixelsHeld + pixels.length
        delivered := o.delivered + 1 }
    else (s.withOut { o with dropped := o.dropped + 1 }).count Counters.addDropped
  | .skipped | .none => s

/-- The TAIL of the frame now running, from the row engine's counts and the meter's latest result
(R147). -/
def State.tailRecord (s : State) (cut stopped : Bool) : TailRecord :=
  { frame := s.timer.current
    delivered := s.out.delivered
    dropped := s.out.dropped
    faults := s.rows.faultCount
    meterValid := (s.meter.latest.map (·.valid)).getD false
    percentileBin := s.meter.latest.bind (·.percentileBin)
    clip := (s.meter.latest.map fun r => clipCount r.bins).getD 0
    cut := cut
    stopped := stopped
    irregular := s.rows.irregular }

/-- The TAIL is offered: placed in its reserved entry in an ADMITTED frame, discarded in a SKIPPED one
(R147); the row engine sets tail offered (R138). -/
def State.offerTail (s : State) (cut stopped : Bool) : State :=
  let s' := s.withRows { s.rows with tailOffered := true }
  match s.out.admission with
  | .admitted =>
    s'.withOut { s.out with
      queue := s.out.queue ++ [.tail (s.tailRecord cut stopped)]
      position := .gap
      admission := .none }
  | .skipped => s'.withOut { s.out with admission := .none }
  | .none => s'

/-- What a record gives back when its last word has been accepted (R149). -/
def OutputUnit.giveBack (o : OutputUnit) (r : StreamRecord) (rest : List StreamRecord) :
    OutputUnit :=
  { o with
    queue := rest
    accepted := 0
    controlHeld := o.controlHeld - r.controlEntries
    rowsHeld := o.rowsHeld - r.rowEntries
    pixelsHeld := o.pixelsHeld - r.pixelEntries }

/-- OUTPUT_WORD_ACCEPT (R149): the next word of the record becomes current, or the record leaves the
queue and gives back its entries. Nothing is presented while the queue is empty. -/
def execOutputWordAccept (s : State) : Host.Outcome State Fault Refusal :=
  match s.out.queue with
  | [] => .next s
  | r :: rest =>
    if s.out.accepted + 1 < r.words.length then
      .next (s.withOut { s.out with accepted := s.out.accepted + 1 })
    else .next (s.withOut (s.out.giveBack r rest))

/-- NOTICE_MOVE (R152): the oldest notice takes the lost count and enters the queue, if the stream is at
GAP and 3 control entries are free. DESIGN CHOICE: it moves when this command comes (log entry 31). -/
def execNoticeMove (s : State) : Host.Outcome State Fault Refusal :=
  match s.out.notices with
  | [] => .next s
  | n :: rest =>
    if s.out.noticeCanMove then
      .next (s.withOut { s.out with
        notices := rest
        queue := s.out.queue ++ [.notice n s.out.lost]
        lost := 0
        controlHeld := s.out.controlHeld + 1 })
    else .next s

end Sys2Proof.Machine
end

