-- ==== Sys2Proof/Machine/Sensor.lean ====
section
/-! DEFINITION. The row engine and the sensor port (chapter 8): the commands of a slot, row deliveries,
deadlines, and the meanings of the sensor's commands. -/

namespace Sys2Proof.Machine

/-! ### The commands of a slot (R128 to R131) -/

/-- The READ of slot k, in a frame (R128). -/
def slotRead (it : Items) (phase : RowPhase) (k : Nat) : Option Nat :=
  if phase = .frame ∧ k < it.rowsRead then some k else none

/-- The row whose late reset slot k carries, from the current plan's time E (R129). -/
def lateReset (it : Items) (current : Option Plan) (k : Nat) : Option Nat :=
  match current with
  | some p => if k + p.time < it.rowsRead then some (k + p.time) else none
  | none => none

/-- The row whose early reset slot k carries, from the next plan's time E′ (R129, R131). -/
def earlyReset (it : Items) (nextTime : Option Nat) (k : Nat) : Option Nat :=
  match nextTime with
  | some e =>
    if it.framePeriod - e ≤ k ∧ k - (it.framePeriod - e) < min e it.rowsRead then
      some (k - (it.framePeriod - e))
    else none
  | none => none

/-- The commands of slot k in the order of R130: READ, late reset, early reset. -/
def slotCommands (it : Items) (r : RowEngine) (k : Nat) : List SensorCommand :=
  (slotRead it r.phase k).toList.map .read
    ++ (lateReset it r.current k).toList.map .reset
    ++ (earlyReset it r.nextTime k).toList.map .reset

/-- The end of slot k at the row engine: its commands are issued, its READ sets the pending row with the
deadline at the end of slot k + 1 (R128), and the end of slot 0 of a frame clears the discard row
(R133). -/
def RowEngine.issueSlot (it : Items) (k : Nat) (r : RowEngine) : RowEngine :=
  { r with
    queue := r.queue ++ slotCommands it r k
    pendingRow :=
      match slotRead it r.phase k with
      | some row => some ⟨row, k + 1⟩
      | none => r.pendingRow
    discardRow := if r.phase = .frame ∧ k = 0 then none else r.discardRow }

/-- The rows of the new frame whose early resets the cut frame's slots from k on would have carried, in
ascending order (R133). -/
def catchUpRows (it : Items) (nextTime : Option Nat) (k : Nat) : List Nat :=
  match nextTime with
  | some e => (List.range (min e it.rowsRead)).filter fun r => k ≤ it.framePeriod - e + r
  | none => []

/-- A cut in slot k at the row engine: a pending row becomes the discard row, and the catch-up list is
made from the old frame's next plan (R133). -/
def RowEngine.cutFrame (it : Items) (k : Nat) (r : RowEngine) : RowEngine :=
  { r with
    discardRow := match r.pendingRow with
      | some p => some p.row
      | none => r.discardRow
    pendingRow := none
    catchUp := catchUpRows it r.nextTime k }

/-- A frame start at the row engine (R127): plans from the schedule's first two entries, the frame's
counts and flags, GAIN, then the catch-up resets of a cut. -/
def RowEngine.startFrame (first : Entry) (second : Option Entry) (kind : StartKind) (r : RowEngine) :
    RowEngine :=
  { r with
    phase := .frame
    current := some ⟨first.target, first.time, first.gain, first.arrayExv⟩
    nextTime := second.map (·.time)
    faultCount := 0
    tailOffered := false
    endRowMissed := false
    irregular := kind == .cut
    queue := r.queue ++ [.gain first.gain] ++ r.catchUp.map .reset
    catchUp := [] }

/-! ### Row faults and deadlines (R136 to R138) -/

/-- One row fault: counted in the frame while a frame runs and its TAIL has not been offered, and in the
counter always (R137, R138). -/
def State.rowFault (s : State) : State :=
  let counted := s.rows.phase == .frame && !s.rows.tailOffered
  (s.withRows { s.rows with
    faultCount := if counted then satSucc 65535 s.rows.faultCount else s.rows.faultCount }).count
    Counters.addRowFault

/-- The end of slot k as a deadline (R136): a row still pending at its deadline is missing. Row H - 1
missing there is remembered for R136's exception. -/
def State.takeDeadline (s : State) (k : Nat) : State :=
  match s.rows.pendingRow with
  | some p =>
    if p.deadline = k then
      (s.withRows { s.rows with
        pendingRow := none
        endRowMissed := s.rows.endRowMissed || p.row + 1 == s.items.rowsRead }).rowFault
    else s
  | none => s

/-! ### Deliveries (R134, R135) -/

/-- The row number a delivery's tag carries: first word times 1024 plus the second; none with fewer than
two words (R134). -/
def Delivery.row (d : Delivery) : Option Nat :=
  match d.tag with
  | hi :: lo :: _ => some (1024 * hi.toNat + lo.toNat)
  | _ => none

/-- One word taken into a delivery (R134, R135): a tag word, or a pixel kept up to W and counted
beyond. -/
def Delivery.take (w : Nat) (word : Pixel) (d : Delivery) : Delivery :=
  if d.tag.length < 2 then { d with tag := d.tag ++ [word] }
  else { d with
    count := d.count + 1
    pixels := if d.count < w then d.pixels ++ [word] else d.pixels }

/-- A row is accepted: handed to the meter, and offered to the output unit unless the frame's TAIL has
been offered (R138). -/
def State.acceptRow (s : State) (row : Nat) (pixels : List Pixel) : State :=
  let s1 := s.withMeter (s.meter.takeRow s.items row pixels)
  if s.rows.tailOffered then s1 else s1.offerRow row pixels

/-- A completed delivery is checked against the pending row as it stands at this step (R135, R137), though
a READ of the same instant may have just made it so (log entry 34). `atReadEnd` says that it
completes at the very instant of the read end: then, if row H - 1 has just been counted missing there,
it is neither accepted nor counted again (R136). -/
def State.checkDelivery (s : State) (atReadEnd : Bool) (d : Delivery) : State :=
  match s.rows.pendingRow with
  | some p =>
    let s1 := s.withRows { s.rows with pendingRow := none }
    if d.row = some p.row ∧ d.count = s.items.rowWidth then s1.acceptRow p.row d.pixels
    else s1.rowFault
  | none =>
    if s.rows.discardRow.isSome ∧ d.row = s.rows.discardRow then
      s.withRows { s.rows with discardRow := none }
    else if atReadEnd ∧ s.rows.endRowMissed then
      s.withRows { s.rows with endRowMissed := false }
    else s.rowFault

/-- The delivery in progress, if any, completes (R135). With none in progress nothing completes: DESIGN
CHOICE for a delivery whose SD_ROW rise the part ignored in OFF and whose fall comes after START, which is
no stray here (R137; log entry 33). -/
def State.completeDelivery (s : State) (atReadEnd : Bool) : State :=
  match s.rows.delivery with
  | some d => (s.withRows { s.rows with delivery := none }).checkDelivery atReadEnd d
  | none => s

/-- DELIVERY (R135): SD_ROW falls. Ignored in IDLE (R139). -/
def execDelivery (atReadEnd : Bool) (s : State) : Host.Outcome State Fault Refusal :=
  match s.rows.phase with
  | .idle => .next s
  | .leadIn | .frame => .next (s.completeDelivery atReadEnd)

/-- DELIVERY_OPEN (R134, R135): SD_ROW rises; a delivery still open is closed at that edge first.
Ignored in IDLE (R139). -/
def execDeliveryOpen (atReadEnd : Bool) (s : State) : Host.Outcome State Fault Refusal :=
  match s.rows.phase with
  | .idle => .next s
  | .leadIn | .frame =>
    let s1 := s.completeDelivery atReadEnd
    .next (s1.withRows { s1.rows with delivery := some ⟨[], 0, []⟩ })

/-- DELIVERY_WORD (R134, R135): the word belongs to the open delivery. Ignored in IDLE (R139), and while
no delivery is open. -/
def execDeliveryWord (word : Pixel) (s : State) : Host.Outcome State Fault Refusal :=
  match s.rows.phase, s.rows.delivery with
  | .idle, _ => .next s
  | _, none => .next s
  | _, some d =>
    .next (s.withRows { s.rows with delivery := some (d.take s.items.rowWidth word) })

/-- SENSOR_COMMAND_SEND (R126): the oldest queued command goes out as its 16-bit word. -/
def execSensorCommandSend (s : State) : Host.Outcome State Fault Refusal :=
  match s.rows.queue with
  | [] => .next s
  | c :: rest => .next (s.withRows { s.rows with queue := rest, sending := some c.word })

/-- DEADLINE (R136): the pending row's deadline, the end of the slot now counting. Not due in any other
phase or slot. -/
def execDeadline (s : State) : Host.Outcome State Fault Refusal :=
  match s.timer.phase with
  | .counting k => .next (s.takeDeadline k)
  | .idle | .leadIn _ | .wait _ => .next s

end Sys2Proof.Machine
end

