-- ==== Sys2Proof/Machine/Frames.lean ====
section
/-! DEFINITION. The frame timer (chapter 4): frame starts and what they hand to the other blocks, read
ends, expiries and cuts; with the meanings of the row-time commands. -/

namespace Sys2Proof.Machine

/-! ### Frame starts (R57, R68, R75, R127, R144) -/

/-- The numbering at a frame start (R75): the next number becomes current, and the rest of the timer
starts the frame at slot 0 (R68). -/
def FrameTimer.startFrame (kind : StartKind) (lag : Nat) (t : FrameTimer) : FrameTimer where
  phase := .counting 0
  current := t.next
  next := t.next + 1
  startKind := some kind
  markLag := lag
  readEndPassed := false

/-- The difference d a frame start hands to the schedule: 0 without a renumbering (R75). -/
def FrameTimer.renumbering (t : FrameTimer) : FrameNo := t.next - (t.current + 1)

/-- The entry a frame start appends: a LOCAL entry for the ended frame when its window was still open at
the mark (R58), from the hold request and the latest result as they stand; none otherwise. -/
def State.cutAppend (s : State) (incomplete : Bool) : Option Entry :=
  if incomplete then
    some (cutEntry s.items s.timer.current s.agree.standing s.agree.holdRequest s.meter.basis)
  else none

/-- The schedule's part of a frame start, S following a cut append (R46, R57, R58). A frame ended unless
the row engine is still in the lead-in. -/
def State.startSchedule (s : State) (incomplete : Bool) : State :=
  let e := s.cutAppend incomplete
  (s.withSchedule (scheduleFrameStart (s.rows.phase == .frame) e s.timer.renumbering s.schedule)).withAgree
    { s.agree with standing := (e.map (·.arrayExv)).getD s.agree.standing }

/-- The row engine and the meter take the new frame from the schedule's first two entries (R114,
R127). -/
def State.planFrame (s : State) (kind : StartKind) : State :=
  let first := s.schedule.head?.getD .vacant
  (s.withRows (s.rows.startFrame first s.schedule.tail.head? kind)).withMeter
    (s.meter.startFrame first.target first.arrayExv)

/-- A frame start (R68): the schedule retires, appends and retargets, the frame number is set, the row
engine and the meter take the frame, and the HEAD is offered. `incomplete` says that the ended frame's
window was closed at this mark without an entry (R36, R58). -/
def State.frameStart (s : State) (kind : StartKind) (lag : Nat) (incomplete : Bool) : State :=
  let s1 := s.startSchedule incomplete
  let s2 := s1.withTimer (s.timer.startFrame kind lag)
  let s3 := s2.planFrame kind
  s3.offerHead (s3.schedule.head?.getD .vacant)

/-! ### The ends of a frame (R63, R64, R70, R78) -/

/-- The meter and the TAIL of a frame that ends before its read end (R70, R78, R119, R147). -/
def State.endEarly (s : State) (cut stopped : Bool) : State :=
  (s.withMeter (s.meter.endFrame s.items true)).offerTail cut stopped

/-- A cut (R70, R133): a frame before its read end is ended with a CUT TAIL; the row engine turns to the
catch-up list. -/
def State.cutFrame (s : State) : State :=
  match s.timer.phase with
  | .counting k =>
    let s1 := if s.timer.readEndPassed then s else s.endEarly true false
    s1.withRows (s1.rows.cutFrame s.items k)
  | .leadIn k => s.withRows (s.rows.cutFrame s.items k)
  | .idle | .wait _ => s

/-- The read end of a frame, at the end of slot H: a row H - 1 still pending is missing, the meter
finalises, and the TAIL is offered (R63, R117, R136, R147). -/
def State.readEnd (s : State) (k : Nat) : State :=
  let s1 := s.takeDeadline k
  let s2 := s1.withTimer { s1.timer with readEndPassed := true }
  (s2.withMeter (s2.meter.endFrame s2.items false)).offerTail false false

/-- The read end is due at the end of slot k: k is H and it has not been taken (R63). -/
def State.readEndDue (s : State) (k : Nat) : Bool :=
  k == s.items.rowsRead && !s.timer.readEndPassed

/-- The frame timer's expiry: MARK is released by a holder and the wait begins (R64). -/
def State.enterWait (s : State) : State :=
  let s1 := if s.station.state.drives then s.withLine s.line.releaseMark else s
  s1.withTimer { s1.timer with phase := .wait 0 }

/-- The row engine's commands of slot k, then the next slot, or the expiry after slot T - 1 (R63, R64,
R128); `next` is the phase of the next slot. -/
def State.passSlot (s : State) (k : Nat) (next : TimerPhase) : State :=
  let s1 := s.withRows (s.rows.issueSlot s.items k)
  if k + 1 < s.items.framePeriod then s1.withTimer { s1.timer with phase := next }
  else s1.enterWait

/-- The end of the slot now counting, with every stage of that instant that has not been taken by a
command of its own: the deadline, the read end, the slot's commands, the expiry (R63, R64, R128, R136;
log entry 3). DESIGN CHOICE: the stages are one step, so a delivery of row r that completes at this
instant, its deadline, and is taken after this step finds row r + 1 pending, by the READ issued here, and is
checked against that row (R135, R136; log entry 34). -/
def State.endSlot (s : State) : State :=
  match s.timer.phase with
  | .leadIn k => s.passSlot k (.leadIn (k + 1))
  | .counting k =>
    let s1 := s.takeDeadline k
    let s2 := if s1.readEndDue k then s1.readEnd k else s1
    s2.passSlot k (.counting (k + 1))
  | .idle | .wait _ => s

/-- ROW_SLOT_END (R128): not due while no slot is counted. -/
def execRowSlotEnd (s : State) : Host.Outcome State Fault Refusal := .next s.endSlot

/-- READ_END (R63): due once, at the end of slot H of a frame; the lead-in has none. -/
def execReadEnd (s : State) : Host.Outcome State Fault Refusal :=
  match s.timer.phase with
  | .counting k => if s.readEndDue k then .next (s.readEnd k) else .next s
  | .idle | .leadIn _ | .wait _ => .next s

/-- EXPIRY (R64): the end of slot T - 1 of a frame or of the lead-in, whose commands it issues (R128,
R141). Not due in an earlier slot. -/
def execExpiry (s : State) : Host.Outcome State Fault Refusal :=
  match s.timer.phase.slot with
  | some k => if s.items.framePeriod ≤ k + 1 then .next s.endSlot else .next s
  | none => .next s

/-- WAIT_TIMER_TICK (R64): the wait timer adds one, up to the mark patience, where the wait ends
(R69). -/
def execWaitTimerTick (s : State) : Host.Outcome State Fault Refusal :=
  match s.timer.phase with
  | .wait w =>
    if w < s.items.markPatience then
      .next (s.withTimer { s.timer with phase := .wait (w + 1) })
    else .next s
  | .idle | .leadIn _ | .counting _ => .next s

end Sys2Proof.Machine
end

