-- ==== Sys2Proof/Machine/Roster.lean ====
section
/-! DEFINITION. The roster (chapter 6): what a window close does to the 32 peer records. -/

namespace Sys2Proof.Machine

/-- A record whose slot read present in an updating round (R99). -/
def PeerRecord.present (p : PeerRecord) (frame : FrameNo) (nonce : Nonce) : PeerRecord :=
  let arrival :=
    match p.state, p.seen with
    | .present, some v | .missing, some v => v.arrival
    | _, _ => frame
  { state := .present, missCount := 0, seen := some ⟨frame, arrival, nonce⟩ }

/-- A record whose slot read absent in an updating round (R100). -/
def PeerRecord.absent (missLimit : Nat) (p : PeerRecord) : PeerRecord :=
  match p.state with
  | .absent => { p with missCount := 0 }
  | .present =>
    if missLimit = 1 then { p with state := .lost, missCount := 1 }
    else { p with state := .missing, missCount := 1 }
  | .missing =>
    if p.missCount + 1 < missLimit then { p with missCount := p.missCount + 1 }
    else { p with state := .lost, missCount := missLimit }
  | .lost => { p with missCount := missLimit }

/-- The nonce read in a slot, if it is in the roll set (R22). -/
def rollNonce (roll : List (Nat × Nonce)) (slot : Nat) : Option Nonce := roll.lookup slot

/-- A slot's record after an updating round (R99, R100). -/
def PeerRecord.update (missLimit : Nat) (frame : FrameNo) (roll : List (Nat × Nonce)) (slot : Nat)
    (p : PeerRecord) : PeerRecord :=
  match rollNonce roll slot with
  | some n => p.present frame n
  | none => p.absent missLimit

/-- The peer notice of a record's transition, none for the station's own slot (R103, R105, R106). -/
def peerNotices (it : Items) (frame : FrameNo) (roll : List (Nat × Nonce)) (slot : Nat)
    (old new : PeerRecord) : List Notice :=
  if slot = it.slot then []
  else match old.state, new.state with
    | .absent, .present | .lost, .present =>
      [⟨frame, .peerJoined slot (it.expectedSet.getLsbD slot) ((rollNonce roll slot).getD 0)⟩]
    | .present, .lost | .missing, .lost =>
      [⟨frame, .peerLost slot (it.expectedSet.getLsbD slot)
        ((new.seen.map (·.lastSeen)).getD 0)⟩]
    | _, _ => []

/-- The records with their slots, lowest slot first (R97). -/
def withSlots (roster : List PeerRecord) : List (Nat × PeerRecord) :=
  (List.range roster.length).zip roster

/-- A CLEAN or HEARD record updates the roster; no other record does (R98). -/
def RoundRecord.updatesRoster (r : RoundRecord) : Bool :=
  r.outcome == some .clean || r.outcome == some .heard

/-- What a window close does to the roster: all records against one roll set, then the notices in
ascending order of slot (R98, R102). -/
def rosterClose (it : Items) (r : RoundRecord) (roster : List PeerRecord) :
    List PeerRecord × List Notice :=
  if r.updatesRoster then
    let roll := r.roll.getD []
    let slots := withSlots roster
    (slots.map fun x => x.2.update it.missLimit r.frame roll x.1,
     slots.flatMap fun x =>
      peerNotices it r.frame roll x.1 x.2 (x.2.update it.missLimit r.frame roll x.1))
  else (roster, [])

end Sys2Proof.Machine
end

