-- ==== Sys2Proof/Machine/Rounds.lean ====
section
/-! DEFINITION. The tally interface and the round engine within a round (chapters 1 and 2), the round
record and the close of a window at the four blocks; with the meanings of the round commands. -/

namespace Sys2Proof.Machine

/-! ### Opening a window (R20, R21, R24, R35) -/

/-- What the round engine takes when a window opens (R21, R35): the hold request and the meter basis for
every active station, the proposal if the station is SYNCED and its meter proposes. -/
def State.takeOffers (s : State) : Offers :=
  let synced := s.station.state == .synced
  let basis := s.meter.basis
  { synced := synced
    hold := s.agree.holdRequest
    standing := s.agree.standing
    proposal := if synced && basis.propose then basis.desired else none
    basis := basis
    nextFrame := none }

/-- A mark at the round engine (R19): a fresh record, and a nonce if the station drives (R24). -/
def RoundEngine.openMarked (drove : Bool) (offers : Offers) (r : RoundEngine) : RoundEngine where
  window := .marked
  drove := drove
  nonceRegister := if drove then (drawNonce r.nonceRegister).2 else r.nonceRegister
  roundNonce := if drove then some (drawNonce r.nonceRegister).1 else none
  offers := some offers
  checkRegister := 0xFF
  voidVote := false
  draft := { RoundDraft.empty with drove := drove }
  localClock := none

/-- A local frame start at the round engine (R35): no nonce is drawn and nothing is driven. -/
def RoundEngine.openLocal (offers : Offers) (r : RoundEngine) : RoundEngine :=
  { r with
    window := .local
    drove := false
    roundNonce := none
    offers := some { offers with synced := false, proposal := none }
    draft := .empty
    localClock := some 0 }

/-- A window close at the round engine (R19). -/
def RoundEngine.closed (r : RoundEngine) : RoundEngine :=
  { r with window := .closed, drove := false, localClock := none }

/-! ### The round record (R33, R34, R37) -/

/-- The outcome of a complete round (R25, R33, R34). -/
def State.roundOutcome (s : State) : Option RoundOutcome :=
  let bits := s.round.draft.bits
  if s.line.withdrawn then none
  else if s.round.drove then
    some (if bitAt bits 225 = .dominant ∨ s.round.voidVote then .void else .clean)
  else if bitAt bits 0 = .dominant ∧ checkRead bits = s.round.checkRegister
      ∧ bitAt bits 225 = .recessive then some .heard
  else some .unheard

/-- The own echo: INTACT if the station drove its slot group to the end and read it as driven (R37). -/
def State.echoIntact (s : State) : Bool :=
  s.round.draft.drove && (!s.line.withdrawn
    && decide (6 + 5 * s.items.slot ≤ s.round.draft.bits.length))

/-- The hold request and meter basis of the open window (R21, R35). -/
def RoundEngine.taken (r : RoundEngine) : Bool × MeterBasis :=
  match r.offers with
  | some o => (o.hold, o.basis)
  | none => (false, ⟨false, none⟩)

/-- The record of a complete round opened by a mark (R37). -/
def State.completeRecord (s : State) : RoundRecord :=
  let bits := s.round.draft.bits
  { frame := s.timer.current
    drove := s.round.draft.drove
    outcome := s.roundOutcome
    withdrawn := s.line.withdrawn
    incomplete := false
    roll := some (rollOf bits)
    ownNonce := s.round.roundNonce
    ownEchoIntact := s.echoIntact
    nextFrame :=
      if bitAt bits 178 = .dominant then some (BitVec.ofNat 16 (maxValueRead bits 161 16)) else none
    hold := some (bitAt bits 177)
    standing := ledValue bits 178 (valueRead bits 179 12) s.round.draft.heldStanding
    low := ledValue bits 191 (valueRead bits 192 12) s.round.draft.heldLow
    high := ledValue bits 204 (maxValueRead bits 205 12) s.round.draft.heldHigh
    holdRequest := s.round.taken.1
    basis := s.round.taken.2 }

/-- A record with no read fields and outcome UNHEARD: of a local window (R35), or of a window a mark
closed early (R36). -/
def State.unreadRecord (s : State) (incomplete : Bool) : RoundRecord :=
  let marked := s.round.window == .marked
  { frame := s.timer.current
    drove := marked && s.round.draft.drove
    outcome := some .unheard
    withdrawn := marked && s.line.withdrawn
    incomplete := incomplete
    roll := none
    ownNonce := s.round.roundNonce
    ownEchoIntact := marked && s.echoIntact
    nextFrame := none
    hold := none
    standing := none
    low := none
    high := none
    holdRequest := s.round.taken.1
    basis := s.round.taken.2 }

/-! ### The station controller at a close (R84 to R92) -/

/-- The nonce read in a slot of the record's roll, if the slot is in it (R85, R86). -/
def RoundRecord.nonceIn (r : RoundRecord) (slot : Nat) : Option Nonce :=
  rollNonce (r.roll.getD []) slot

/-- A HEARD close in LISTEN (R84 to R86): the join count, a join, SLOT_BUSY, and the slot-busy flag. -/
def heardInListen (it : Items) (frame : FrameNo) (r : RoundRecord) (c : StationController) :
    StationController × List Notice :=
  let joins := min (c.joinCount + 1) it.joinCount
  match r.nonceIn it.slot with
  | none =>
    let c1 := { c with joinCount := joins, slotBusy := false }
    if joins = it.joinCount then
      (c1.enter .joining, [stateChangedNotice frame .listen .joining .joined])
    else (c1, [])
  | some n =>
    if joins = it.joinCount ∧ ¬ c.slotBusy then
      ({ c with joinCount := joins, slotBusy := true }, [⟨r.frame, .slotBusy it.slot n joins⟩])
    else ({ c with joinCount := joins }, [])

/-- A VOID close of a driven round in JOINING or SYNCED (R91, R92). -/
def voidWhileDriving (it : Items) (frame : FrameNo) (r : RoundRecord) (c : StationController) :
    StationController × List Notice :=
  if c.voidCount + 1 < it.voidLimit then ({ c with voidCount := c.voidCount + 1 }, [])
  else
    (c.enter .listen,
      [⟨r.frame, .voidLimit it.voidLimit c.state⟩,
       stateChangedNotice frame c.state .listen .voidLimit])

/-- What a window close does to the station controller (R84, R85, R88, R91, R92); `frame` is the frame
timer's current number, which STATE_CHANGED carries (R80). -/
def stationClose (it : Items) (frame : FrameNo) (r : RoundRecord) (c : StationController) :
    StationController × List Notice :=
  match c.state, r.outcome with
  | .listen, some .heard => heardInListen it frame r c
  | .listen, some .unheard => ({ c with joinCount := 0 }, [])
  | .joining, some .clean =>
    if r.drove && r.ownEchoIntact then
      (c.enter .synced, [stateChangedNotice frame .joining .synced .synced])
    else if r.drove then ({ c with voidCount := 0 }, [])
    else (c, [])
  | .synced, some .clean => if r.drove then ({ c with voidCount := 0 }, []) else (c, [])
  | .joining, some .void | .synced, some .void =>
    if r.drove then voidWhileDriving it frame r c else (c, [])
  | _, _ => (c, [])

/-! ### The frame timer at a close (R76) -/

/-- A CLEAN driven or HEARD record orders a renumbering when its next frame number differs from the
station's own (R76). -/
def timerClose (r : RoundRecord) (t : FrameTimer) : FrameTimer × List Notice :=
  if r.drivenClean || r.outcome == some .heard then
    match r.nextFrame with
    | some n =>
      if n = t.next then (t, [])
      else ({ t with next := n }, [⟨r.frame, .frameRenumbered t.next n⟩])
    | none => (t, [])
  else (t, [])

/-! ### The close of a window (R37) -/

/-- The round counters: a driven round that closes CLEAN or VOID counts (R33). -/
def countRound (r : RoundRecord) (c : Counters) : Counters :=
  match r.outcome with
  | some .clean => if r.drove then c.addClean else c
  | some .void => if r.drove then c.addVoid else c
  | some .heard | some .unheard | none => c

/-- A window closes and its record is passed on (R37): each block takes the record into its own state,
and their notices enter the list in whichever order they reach it (R150). A station that joins holds
MARK at once if the timer counts the slots of a frame, but not when the close is taken at a mark
(R66). -/
def State.passRecord (s : State) (r : RoundRecord) (atMark : Bool) : State :=
  let it := s.items
  let st := stationClose it s.timer.current r s.station
  let ro := rosterClose it r s.roster
  let ti := timerClose r s.timer
  let ag := agreementClose it (s.station.state == .barred) r s.agree s.schedule
  let s1 := ((((s.withStation st.1).withLine (s.line.follow s.station.state st.1.state)).withRoster
    ro.1).withTimer ti.1).withAgree ag.1
  let s2 := ((s1.withSchedule ag.2.1).withRound s.round.closed).count (countRound r)
  let s3 :=
    if s.station.state = .listen ∧ st.1.state = .joining ∧ s.timer.phase.isCounting ∧ ¬ atMark then
      s2.holdMark s.line.markReference
    else s2
  s3.createMerged [st.2, ro.2, ti.2, ag.2.2]

/-! ### The bits of a round (R6, R8, R10 to R15, R25, R30 to R32) -/

/-- A round opened by a mark is being timed at an active station (R2, R6). -/
def State.roundOpen (s : State) : Bool :=
  s.active && (s.line.roundInProgress && s.round.window == .marked)

/-- The bit that starts or is sampled next: as many bits as have been sampled (R8; log entry 11). -/
def State.nextBit (s : State) : Nat := s.round.draft.bits.length

/-- ROUND_BIT_START (R6): a driver sets TALLY to the level of the bit. The next frame number is taken at
the start of bit 161 (R21). Not due outside bits 0 to 225. -/
def execRoundBitStart (s : State) : Host.Outcome State Fault Refusal :=
  let i := s.nextBit
  if s.roundOpen ∧ i < roundBits then
    let standing := if isFieldStart i then FieldStanding.inField else s.line.standing
    let offers := s.round.offers.map fun o =>
      if i = 161 then { o with nextFrame := some s.timer.next } else o
    let round := { s.round with offers := offers }
    let level := match offers with
      | some o =>
        if s.drivesNow then driveLevel s.items.slot round o standing (fieldBit i) else .recessive
      | none => .recessive
    .next ((s.withRound round).withLine { s.line with
      standing := standing
      roundClock := some (4 + i)
      tallyDrive := driveOfLevel level })
  else .next s

/-- Whether a sampled bit is a TALLY drive fault (R15). -/
def State.faultAt (s : State) (read : Level) : Bool :=
  s.drivesNow && (levelOfDrive s.line.tallyDrive == .dominant && read == .recessive)

/-- Whether a sampled bit is an echo mismatch: in the own slot group, read otherwise than driven
(R13). -/
def State.mismatchAt (s : State) (read : Level) : Bool :=
  s.drivesNow && ((fieldBit s.nextBit).inSlot s.items.slot
    && levelOfDrive s.line.tallyDrive != read)

/-- Whether a sampled bit is a check mismatch: bit 224, with the check field read differing from the
check value driven (R31). -/
def State.checkMismatchAt (s : State) (read : Level) : Bool :=
  s.drivesNow && (s.nextBit == 224
    && checkRead (s.round.draft.bits ++ [read]) != s.round.checkRegister)

/-- Whether the station contends in the field of the bit being sampled (R10, R12). -/
def State.contendsNow (s : State) : Bool :=
  s.drivesNow && (s.round.offers.map (·.contends (fieldBit s.nextBit))).getD false

/-- The field standing after the sample (R10, R15). -/
def State.standingAt (s : State) (read : Level) : FieldStanding :=
  if s.contendsNow then contestAfter s.line.standing (levelOfDrive s.line.tallyDrive) read
  else s.line.standing

/-- The record under construction after a sample: the bit kept, and at the last bit of a presence-led
field whether the station held its result (R10, R37). -/
def State.draftAt (s : State) (read : Level) : RoundDraft :=
  let d := s.round.draft
  let held := s.contendsNow && s.standingAt read == .inField
  { d with
    bits := d.bits ++ [read]
    heldStanding := if s.nextBit = 190 then held else d.heldStanding
    heldLow := if s.nextBit = 203 then held else d.heldLow
    heldHigh := if s.nextBit = 216 then held else d.heldHigh }

/-- The round engine after a sample (R25, R30, R32): the check register is fed bits 1 to 216; a drive
fault in bits 0 to 224 or a check mismatch sets the void vote; an echo mismatch clears drove and casts
no vote. -/
def State.roundAt (s : State) (read : Level) : RoundEngine :=
  let i := s.nextBit
  { s.round with
    draft := s.draftAt read
    checkRegister :=
      if 1 ≤ i ∧ i ≤ 216 then crcStep s.round.checkRegister read else s.round.checkRegister
    drove := s.round.drove && !s.mismatchAt read
    voidVote :=
      !s.mismatchAt read
        && (s.round.voidVote || (s.faultAt read && i ≤ 224) || s.checkMismatchAt read) }

/-- The notices of a sampled bit, by creating block: LINE_FAULT at the first fault after the mark (R39),
ID_CONFLICT (R25), and STATE_CHANGED (R94). -/
def State.sampleNotices (s : State) (read : Level) : List (List Notice) :=
  [ if s.faultAt read && !s.line.faultNoted then
      [⟨s.timer.current, .lineFault .tally (some s.nextBit)⟩] else [],
    if s.mismatchAt read then
      [⟨s.timer.current, .idConflict s.items.slot s.nextBit (s.round.roundNonce.getD 0)⟩] else [],
    if s.mismatchAt read then [s.movedNotice .barred .idConflict] else [] ]

/-- One sampled bit at every block it reaches (R8, R13, R15, R25, R94). Only an echo mismatch releases TALLY
at the sample (R13); after a drive fault in a contest field the drive of the bit stands to its end, and the
next bit start drives recessive (R6, R15): DEDUCED (log entry 35). -/
def State.sampleBit (s : State) (read : Level) : State :=
  let s1 := (s.withRound (s.roundAt read)).withLine { s.line with
    standing := s.standingAt read
    withdrawn := s.line.withdrawn || s.mismatchAt read
    faultNoted := s.line.faultNoted || s.faultAt read }
  let s2 := if s.mismatchAt read then s1.moveStation .barred else s1
  let s3 := if s.faultAt read then s2.count Counters.addDriveFault else s2
  s3.createMerged (s.sampleNotices read)

/-- ROUND_BIT_SAMPLE (R8): every active station samples TALLY. Not due outside bits 0 to 225. -/
def execRoundBitSample (read : Level) (s : State) : Host.Outcome State Fault Refusal :=
  if s.roundOpen ∧ s.nextBit < roundBits then .next (s.sampleBit read) else .next s

/-- Round in progress cleared and TALLY released at a time of the round clock (R6). -/
def TallyInterface.endRound (clock : Nat) (l : TallyInterface) : TallyInterface :=
  { l with roundInProgress := false, tallyDrive := .released, roundClock := some clock }

/-- ROUND_END (R6): the end of bit 225, which has been sampled. Not due before. -/
def execRoundEnd (s : State) : Host.Outcome State Fault Refusal :=
  if s.roundOpen ∧ s.nextBit = roundBits then .next (s.withLine (s.line.endRound 230)) else .next s

/-- WINDOW_CLOSE (R37): 240 bit times after a mark, with every bit sampled. Not due before, nor once the
window has closed. -/
def execWindowClose (s : State) : Host.Outcome State Fault Refusal :=
  if s.active ∧ s.round.window = .marked ∧ s.nextBit = roundBits then
    let s1 := s.withLine (s.line.endRound 240)
    .next (s1.passRecord s1.completeRecord false)
  else .next s

/-- LOCAL_WINDOW_CLOSE (R35): 240 bit times after a local frame start. -/
def execLocalWindowClose (s : State) : Host.Outcome State Fault Refusal :=
  if s.active ∧ s.round.window = .local then .next (s.passRecord (s.unreadRecord false) false)
  else .next s

end Sys2Proof.Machine
end

