-- ==== Sys2Proof/Machine/Marks.lean ====
section
/-! DEFINITION. The mark (R5, R9, R36, R67, R70), the hold on MARK (R65, R16), and the frame a station
opens for itself when no mark comes (R69, R72, R89). -/

namespace Sys2Proof.Machine

/-! ### A mark -/

/-- A recessive level read on MARK is a mark (R5): the part is active, its own drive is released, and
the reference was dominant. -/
def State.seesRise (s : State) : Bool :=
  s.active && (s.line.markDrive == .released && s.line.markReference == some .dominant)

/-- The open window is closed by a mark without an entry: a local window, or a round whose bit 225 has
not been sampled (R36). -/
def State.windowIncomplete (s : State) : Bool :=
  match s.round.window with
  | .closed => false
  | .local => true
  | .marked => s.nextBit != roundBits

/-- What a mark does to the window still open (R9, R36): a complete round closes as at any window close,
before the mark's frame start; any other closes UNHEARD and incomplete. -/
def State.closeAtMark (s : State) : State :=
  match s.round.window with
  | .closed => s
  | .local => s.passRecord (s.unreadRecord true) true
  | .marked =>
    if s.nextBit = roundBits then s.passRecord s.completeRecord true
    else s.passRecord (s.unreadRecord true) true

/-- The tally interface at a mark (R2, R5, R7): the round clock at zero, the guard begun with TALLY
released, and whether the station drives the round. -/
def TallyInterface.atMark (drives : Bool) (l : TallyInterface) : TallyInterface :=
  { l with
    markReference := some .recessive
    tallyDrive := .released
    roundClock := some 0
    roundInProgress := true
    driving := drives
    withdrawn := false
    faultNoted := false }

/-- The station controller at a mark: listen count 0 and LINE_LOW flag clear (R72, R73). -/
def StationController.seeMark (c : StationController) : StationController :=
  { c with listenCount := 0, lineLow := false }

/-- The frame timer at a mark: a MARKED frame start from the wait with its lag, limited to 255 (R67), or
a cut while slots are counted (R70). -/
def State.markFrame (s : State) (incomplete : Bool) : State :=
  match s.timer.phase with
  | .wait w => s.frameStart .marked (min w 255) incomplete
  | .leadIn _ | .counting _ => s.cutFrame.frameStart .cut 0 incomplete
  | .idle => s

/-- The offers of a round whose mark also reaches the frame timer: `before` as they stood before the
frame timer acted, `after` as they stand after it. The two blocks act in no fixed order (R5, R123), so
where they differ a free value chooses. -/
def chooseOffers (used : Nat) (before after : Offers) : Offers × Nat :=
  if before = after then (before, used)
  else (if Config.freeEngineFirst used then before else after, used + 1)

/-- A mark is recognised (R5): the old window closes, the interface and the station controller take the
mark, the frame timer starts a frame, and the round engine opens the round. -/
def State.recogniseMark (s : State) : State :=
  let incomplete := s.windowIncomplete
  let s1 := s.closeAtMark
  let drives := s1.station.state.drives
  let s2 := (s1.withLine (s1.line.atMark drives)).withStation s1.station.seeMark
  let s3 := s2.markFrame incomplete
  let choice := chooseOffers s3.freeCount s2.takeOffers s3.takeOffers
  (s3.withRound (s3.round.openMarked drives choice.1)).withFreeCount choice.2

/-- A recessive read of MARK that is no mark (R5): while the station pulls MARK the reference keeps the
value dominant, and the level is kept for the release (log entry 8); else the reference is updated. -/
def TallyInterface.readRecessive (l : TallyInterface) : TallyInterface :=
  match l.markDrive with
  | .pulled => { l with heldRead := .recessive }
  | .released => { l with markReference := some .recessive }

/-- A rise at the instant of a window close that was taken first, and whose join began a hold (R9): the
hold found the reference dominant, and MARK has not been read since (log entry 32). -/
def State.seesRiseAtJoin (s : State) : Bool :=
  s.active && (s.line.markDrive == .pulled && s.line.referenceAtJoin == some .dominant
    && s.line.holdClock == some 0)

/-- MARK (R5): a recessive level read on MARK. It is no mark in OFF, while the station pulls MARK, or
without a rise; but a rise at the instant of a window close taken first is one, though the join at that
close pulls MARK (R9). -/
def execMark (s : State) (atWindowClose : Bool := false) : Host.Outcome State Fault Refusal :=
  if s.seesRise then .next s.recogniseMark
  else if atWindowClose ∧ s.seesRiseAtJoin then
    .next (s.withLine s.line.dropJoinHold).recogniseMark
  else if s.active then .next (s.withLine s.line.readRecessive)
  else .next s

/-- MARK_FALL (R5): MARK reads dominant, and the reference becomes dominant while the part is active.
A hold just begun by a join has then been read (log entry 32). -/
def execMarkFall (s : State) : Host.Outcome State Fault Refusal :=
  if s.active then
    .next (s.withLine { s.line with
      markReference := some .dominant, heldRead := .dominant, referenceAtJoin := none })
  else .next s

/-! ### The hold -/

/-- MARK_HOLD (R65): two bit times after a mark, a JOINING or SYNCED station counting the frame's slots
holds MARK. Not due before a mark or later than its guard. -/
def execMarkHold (s : State) : Host.Outcome State Fault Refusal :=
  if s.active ∧ s.line.roundClock = some 0 then
    let s1 := s.withLine { s.line with roundClock := some 2 }
    .next (if s.timer.phase.isCounting then s1.holdMark none else s1)
  else .next s

/-- The void bit of the open round has not yet begun (R16, R32). -/
def State.beforeVoidBit (s : State) : Bool :=
  s.line.roundInProgress && (s.line.roundClock.getD 0 < 229 && s.nextBit ≤ 225)

/-- A drive fault on MARK (R16): counted, noted, and given to the round engine as a void vote if a round
the station drives is in progress and its void bit has not begun. -/
def State.markFault (s : State) : State :=
  let s1 := (s.withLine { s.line with faultNoted := true }).withRound { s.round with
    voidVote := s.round.voidVote || (s.drivesNow && s.beforeVoidBit) }
  (s1.count Counters.addDriveFault).createMerged
    [if s.line.faultNoted then [] else [⟨s.timer.current, .lineFault .mark none⟩]]

/-- MARK_DRIVE_FAULT (R16): the check of MARK at the middle of a bit time of the hold, with the level
read. A recessive level is a drive fault. Not due while MARK is released. -/
def execMarkDriveFault (level : Level) (s : State) : Host.Outcome State Fault Refusal :=
  match s.line.markDrive with
  | .released => .next s
  | .pulled =>
    let s1 := s.withLine { s.line with
      holdClock := s.line.holdClock.map (· + 1)
      heldRead := level }
    match level with
    | .dominant => .next s1
    | .recessive => .next s1.markFault

/-! ### Local frames and founding -/

/-- A local frame start (R68, R69): a LOCAL frame whose lag is the mark patience, limited to 255, with a
local window (R35). -/
def State.localFrame (s : State) : State :=
  let s1 := s.frameStart .local (min s.items.markPatience 255) false
  s1.withRound (s1.round.openLocal s1.takeOffers)

/-- A mark stall (R69, R93): counted, with notices of the frame timer and the station controller; the
station falls to LISTEN. -/
def State.stall (s : State) : State :=
  let notices : List (List Notice) :=
    [ [⟨s.timer.current, .markStall s.items.markPatience s.station.state⟩],
      [s.movedNotice .listen .markStall] ]
  ((s.moveStation .listen).count Counters.addStall).createMerged notices

/-- A founding attempt that finds MARK recessive without a rise (R72, R89): the station moves to SYNCED
and holds MARK at once. -/
def State.found (s : State) : State :=
  ((s.moveStation .synced).holdMark none).createMerged [[s.movedNotice .synced .founded]]

/-- A founding attempt that finds MARK dominant (R72, R73): listen count 0, and LINE_LOW once until a
mark is seen. -/
def State.lineLow (s : State) : State :=
  let s1 := (s.withStation { s.station with listenCount := 0, lineLow := true }).withLine
    { s.line with markReference := some .dominant }
  s1.createMerged [if s.station.lineLow then [] else [⟨s.timer.current, .lineLow⟩]]

/-- A local frame start that finds the station in LISTEN (R72, R84, R89): the join count becomes 0, the
listen count one more, and at the listen timeout the station reads MARK. A rise found by that read is
a mark (log entry 9). -/
def State.listenFrame (s : State) (read : Level) : State :=
  let count := s.station.listenCount + 1
  let s1 := s.withStation { s.station with joinCount := 0, listenCount := count }
  if count = s.items.listenTimeout then
    match read with
    | .dominant => s1.lineLow
    | .recessive => if s1.seesRise then s1.recogniseMark else s1.found
  else s1

/-- The wait has reached the mark patience (R69), the tick of that instant taken or not (log entry 4),
and no window is open. -/
def State.patienceDue (s : State) : Bool :=
  match s.timer.phase with
  | .wait w => s.items.markPatience ≤ w + 1 && s.round.window == .closed
  | .idle | .leadIn _ | .counting _ => false

/-- PATIENCE_EXPIRY (R69): a local frame opens; a JOINING or SYNCED station stalls, a LISTEN station
counts the frame toward founding, a BARRED one does nothing more. -/
def execPatienceExpiry (read : Level) (s : State) : Host.Outcome State Fault Refusal :=
  if s.patienceDue then
    let s1 := s.localFrame
    match s.station.state with
    | .joining | .synced => .next s1.stall
    | .listen => .next (s1.listenFrame read)
    | .barred | .off => .next s1
  else .next s

end Sys2Proof.Machine
end

