-- ==== Sys2Proof/Machine/Control.lean ====
section
/-! DEFINITION. The control port (chapter 10): transactions, START, STOP and power-on reset. -/

namespace Sys2Proof.Machine

/-! ### Transactions (R156, R157) -/

/-- The port takes transactions (R165). -/
def State.portReady (s : State) : Bool := s.port.mode == .ready

/-- A transaction that completes with its command: the result is set, and no read is open. A new command
byte is taken only in a new transaction, so a read still open has been abandoned (R156; log
entry 21). -/
def State.answer (s : State) (r : CommandResult) : State :=
  s.withPort { s.port with result := r, transaction := none }

/-- A read takes its word; its result is set when its last data byte has been sent (R157). An index
that names no item returns zero and is answered BAD_ITEM (R158, R109). -/
def State.openRead (s : State) (received : List Byte) (word : Option Word) (status : Bool) : State :=
  s.withPort { s.port with
    transaction := some
      { received := received
        word := word.getD 0
        answer := if word.isSome then .ok else .badItem
        clearsAttention := status
        noticeSince := false } }

/-- READ_ITEM (R158). -/
def execReadItem (index : Byte) (s : State) : Host.Outcome State Fault Refusal :=
  if s.portReady then .next (s.openRead [0x01, index] (s.port.itemWord index.toNat) false)
  else .next s

/-- The result of a WRITE_ITEM and the items after it: the first case of R159 that applies. -/
def writeOutcome (state : StationState) (it : Items) (index : Nat) (word : Word) :
    CommandResult × Items :=
  if !isConfigIndex index then (.badItem, it)
  else if state ≠ .off then (.refusedRunning, it)
  else match it.write index word with
    | none => (.badValue, it)
    | some it' => (.ok, it')

/-- WRITE_ITEM (R159, R160). -/
def execWriteItem (index : Byte) (word : Word) (s : State) : Host.Outcome State Fault Refusal :=
  if s.portReady then
    let w := writeOutcome s.station.state s.items index.toNat word
    .next ((s.withPort { s.port with items := w.2 }).answer w.1)
  else .next s

/-- READ_ROSTER (R108, R109). -/
def execReadRoster (index : Byte) (s : State) : Host.Outcome State Fault Refusal :=
  if s.portReady then
    .next (s.openRead [0x21, index] (rosterWord s.items s.roster index.toNat) false)
  else .next s

/-- READ_STATUS (R163): the word is taken with the command byte. -/
def execReadStatus (s : State) : Host.Outcome State Fault Refusal :=
  if s.portReady then .next (s.openRead [0x20] (some s.statusWord) true) else .next s

/-- LAST_DATA_BYTE_SENT (R157, R163): the open read completes; a status read clears the attention flag
unless a notice was created since its word was taken. Not due while no read is open. -/
def execLastDataByteSent (s : State) : Host.Outcome State Fault Refusal :=
  match s.port.transaction with
  | none => .next s
  | some t =>
    .next (s.withPort { s.port with
      result := t.answer
      transaction := none
      attention := s.port.attention && !(t.clearsAttention && !t.noticeSince) })

/-- UNKNOWN_COMMAND_BYTE (R156): answered BAD_ITEM, does nothing. -/
def execUnknownCommandByte (_code : Byte) (s : State) : Host.Outcome State Fault Refusal :=
  if s.portReady then .next (s.answer .badItem) else .next s

/-- TRANSACTION_ABANDONED (R156): SEL_N rises; the result is left as it stood. After a reset this rise
is what the port waited for (R165; log entry 18). -/
def execTransactionAbandoned (s : State) : Host.Outcome State Fault Refusal :=
  match s.port.mode with
  | .heldIdle => .next s
  | .awaitSelHigh | .ready =>
    .next (s.withPort { s.port with mode := .ready, transaction := none })

/-- HOLD_ON (R43, R162). -/
def execHoldOn (s : State) : Host.Outcome State Fault Refusal :=
  if s.portReady then .next ((s.withAgree { s.agree with holdRequest := true }).answer .ok)
  else .next s

/-- HOLD_OFF (R43, R162). -/
def execHoldOff (s : State) : Host.Outcome State Fault Refusal :=
  if s.portReady then .next ((s.withAgree { s.agree with holdRequest := false }).answer .ok)
  else .next s

/-! ### START (R161) -/

/-- R2, column START: the reference is the level read at START. -/
def TallyInterface.started (mark : Level) : TallyInterface :=
  { TallyInterface.powerOn with markReference := some mark }

/-- R19, column START. -/
def RoundEngine.started (it : Items) : RoundEngine :=
  { RoundEngine.powerOn with nonceRegister := seedRegister it.seed }

/-- R79, column START. -/
def StationController.started : StationController :=
  { StationController.powerOn with state := .listen }

/-- R62, column START. -/
def FrameTimer.started : FrameTimer := { FrameTimer.powerOn with phase := .leadIn 0 }

/-- R42, column START: S is the initial EXV, the hold request is unchanged. -/
def AgreementUnit.started (it : Items) (a : AgreementUnit) : AgreementUnit :=
  { a with standing := it.initialExv, quorumFlag := .undecided }

/-- R125, column START: the next plan is the first primed entry's time (R131). A word whose sending has
begun is completed (R139). -/
def RowEngine.started (schedule : List Entry) (r : RowEngine) : RowEngine :=
  { RowEngine.powerOn with
    phase := .leadIn
    nextTime := schedule.head?.map (·.time)
    sending := r.sending }

/-- R142, column START. -/
def OutputUnit.started (o : OutputUnit) : OutputUnit :=
  { o with admission := .none, delivered := 0, dropped := 0, skip := 0 }

/-- START with a valid configuration, before its notice (R161): every block at its START values, and
every counter 0. -/
def State.started (s : State) (mark : Level) : State :=
  let it := s.items
  let schedule := primedSchedule it
  { s with
    line := .started mark
    round := .started it
    station := .started
    timer := .started
    roster := clearedRoster
    agree := s.agree.started it
    schedule := schedule
    meter := .powerOn
    rows := s.rows.started schedule
    out := s.out.started
    port := { s.port with counters := .zero, startError := .none } }

/-- START (R81, R161). -/
def execStart (mark : Level) (s : State) : Host.Outcome State Fault Refusal :=
  if s.portReady then
    match s.station.state with
    | .off =>
      match s.items.startCheck with
      | .none =>
        .next ((((s.started mark).createMerged
          [[stateChangedNotice 65535 .off .listen .start]])).answer .ok)
      | e => .next ((s.withPort { s.port with startError := e }).answer .configError)
    | .listen | .joining | .synced | .barred => .next (s.answer .refusedRunning)
  else .next s

/-! ### STOP (R82) -/

/-- R2 and R17, column STOP. -/
def TallyInterface.stopped : TallyInterface := .powerOn

/-- R19, column STOP: the nonce register is unchanged. -/
def RoundEngine.stopped (r : RoundEngine) : RoundEngine :=
  { RoundEngine.powerOn with nonceRegister := r.nonceRegister }

/-- R62, column STOP: the numbers and the lag stand. -/
def FrameTimer.stopped (t : FrameTimer) : FrameTimer :=
  { t with phase := .idle, startKind := none, readEndPassed := false }

/-- R42, column STOP. -/
def AgreementUnit.stopped (a : AgreementUnit) : AgreementUnit :=
  { a with holdRequest := false, quorumFlag := .undecided }

/-- R125 and R139, column STOP: commands in the queue are discarded, one being sent is completed. -/
def RowEngine.stopped (r : RowEngine) : RowEngine :=
  { RowEngine.powerOn with
    faultCount := r.faultCount
    irregular := r.irregular
    sending := r.sending }

/-- A STOP before the read end of a frame ends it with a STOPPED TAIL and an invalid result (R78, R119,
R139, R154). -/
def State.endStoppedFrame (s : State) : State :=
  match s.timer.phase with
  | .counting _ => if s.timer.readEndPassed then s else s.endEarly false true
  | .idle | .leadIn _ | .wait _ => s

/-- STOP outside OFF, before its notice (R82, R162): each block at its STOP values. -/
def State.stopped (s : State) : State :=
  let s1 := s.endStoppedFrame
  { s1 with
    line := .stopped
    round := s1.round.stopped
    station := s1.station.enter .off
    timer := s1.timer.stopped
    agree := s1.agree.stopped
    schedule := []
    meter := s1.meter.stop s1.items
    rows := s1.rows.stopped
    out := { s1.out with admission := .none } }

/-- STOP (R82, R162): answered OK in every state; in OFF it does nothing further. -/
def execStop (s : State) : Host.Outcome State Fault Refusal :=
  if s.portReady then
    match s.station.state with
    | .off => .next (s.answer .ok)
    | .listen | .joining | .synced | .barred =>
      .next ((s.stopped.createMerged [[s.movedNotice .off .stop]]).answer .ok)
  else .next s

/-! ### Reset (R165) -/

/-- POWER_ON_RESET (R83, R165): every block at its power-on values, no notice, and the control port held
idle while RESET_N is low. The model's own counter and the waiting commands are no part of the part. -/
def execPowerOnReset (s : State) : Host.Outcome State Fault Refusal :=
  .next { State.reset with
    port := .powerOn .heldIdle
    freeCount := s.freeCount
    pending := s.pending }

/-- RESET_RELEASE (R165): RESET_N rises; the port waits for SEL_N to be high before it takes a
transaction. Not due while RESET_N is high. -/
def execResetRelease (selHigh : Bool) (s : State) : Host.Outcome State Fault Refusal :=
  match s.port.mode with
  | .heldIdle =>
    .next (s.withPort { s.port with mode := if selHigh then .ready else .awaitSelHigh })
  | .awaitSelHigh | .ready => .next s

end Sys2Proof.Machine
end

