-- ==== Sys2Proof/Machine/Dispatch.lean ====
section
/-! DEFINITION. The dispatch of a command to its meaning: one arm per row of the opcode table. -/

namespace Sys2Proof.Machine

def exec (i : Instr) (s : State) : Host.Outcome State Fault Refusal :=
  match i with
  | .readItem index => Sys2Proof.Machine.execReadItem index s
  | .writeItem index word => Sys2Proof.Machine.execWriteItem index word s
  | .readRoster index => Sys2Proof.Machine.execReadRoster index s
  | .readStatus => Sys2Proof.Machine.execReadStatus s
  | .start mark => Sys2Proof.Machine.execStart mark s
  | .stop => Sys2Proof.Machine.execStop s
  | .holdOn => Sys2Proof.Machine.execHoldOn s
  | .holdOff => Sys2Proof.Machine.execHoldOff s
  | .unknownCommandByte code => Sys2Proof.Machine.execUnknownCommandByte code s
  | .transactionAbandoned => Sys2Proof.Machine.execTransactionAbandoned s
  | .powerOnReset => Sys2Proof.Machine.execPowerOnReset s
  | .mark atWindowClose => Sys2Proof.Machine.execMark s atWindowClose
  | .markHold => Sys2Proof.Machine.execMarkHold s
  | .markDriveFault level => Sys2Proof.Machine.execMarkDriveFault level s
  | .windowClose => Sys2Proof.Machine.execWindowClose s
  | .localWindowClose => Sys2Proof.Machine.execLocalWindowClose s
  | .rowSlotEnd => Sys2Proof.Machine.execRowSlotEnd s
  | .readEnd => Sys2Proof.Machine.execReadEnd s
  | .deadline => Sys2Proof.Machine.execDeadline s
  | .expiry => Sys2Proof.Machine.execExpiry s
  | .patienceExpiry mark => Sys2Proof.Machine.execPatienceExpiry mark s
  | .delivery atReadEnd => Sys2Proof.Machine.execDelivery atReadEnd s
  | .sensorCommandSend => Sys2Proof.Machine.execSensorCommandSend s
  | .outputWordAccept => Sys2Proof.Machine.execOutputWordAccept s
  | .noticeMove => Sys2Proof.Machine.execNoticeMove s
  | .roundBitStart => Sys2Proof.Machine.execRoundBitStart s
  | .roundBitSample level => Sys2Proof.Machine.execRoundBitSample level s
  | .roundEnd => Sys2Proof.Machine.execRoundEnd s
  | .markFall => Sys2Proof.Machine.execMarkFall s
  | .waitTimerTick => Sys2Proof.Machine.execWaitTimerTick s
  | .deliveryOpen atReadEnd => Sys2Proof.Machine.execDeliveryOpen atReadEnd s
  | .deliveryWord word => Sys2Proof.Machine.execDeliveryWord word s
  | .lastDataByteSent => Sys2Proof.Machine.execLastDataByteSent s
  | .resetRelease selHigh => Sys2Proof.Machine.execResetRelease selHigh s

end Sys2Proof.Machine
end

