-- ==== Sys2Proof/Safety.lean ====
section
/-! DEFINITION. What holds in every state the part can reach: the laws that the manual states of the whole
part, as predicates of a state. -/

namespace Sys2Proof.Machine

/-! ### Configuration -/

/-- Every item lies in its range, and outside OFF the checks of START hold (R159 to R161). -/
def State.configured (s : State) : Bool :=
  s.items.inRange && (s.station.state == .off || s.items.startCheck == .none)

/-! ### Phases -/

/-- The lead-in (R74): a LISTEN station with the numbers START gave and no window. -/
def State.inLeadIn (s : State) : Bool :=
  s.station.state == .listen && s.round.window == .closed
    && s.timer.current == 65535 && s.timer.next == 0

/-- The phases of the frame timer, the row engine and the meter fit together, and with them the station
state and the open window: IDLE is OFF; the lead-in is counted or waited out; else a frame is, which the
meter collects up to its read end, the end of slot H (R62, R63, R74, R124, R125). -/
def State.phasesAgree (s : State) : Bool :=
  s.rows.catchUp.isEmpty &&
  match s.timer.phase, s.rows.phase with
  | .idle, .idle =>
    s.station.state == .off && s.round.window == .closed && s.meter.phase == .idle
  | .leadIn k, .leadIn =>
    s.inLeadIn && decide (k < s.items.framePeriod) && s.meter.phase == .idle
  | .wait _, .leadIn => s.inLeadIn && s.meter.phase == .idle
  | .counting k, .frame =>
    s.active && decide (k < s.items.framePeriod)
      && (if s.timer.readEndPassed then
            decide (s.items.rowsRead ≤ k) && s.meter.phase == .done
          else decide (k ≤ s.items.rowsRead) && s.meter.phase == .collecting)
  | .wait _, .frame => s.active && s.meter.phase == .done
  | _, _ => false

/-- The two together: what every law below is stated under. -/
def State.sound (s : State) : Bool := s.configured && s.phasesAgree

/-! ### Lines (R3) -/

/-- A station pulls a line only in JOINING or SYNCED, and MARK only while it counts the slots of a frame
(R3, R64 to R66). -/
def State.linesAllowed (s : State) : Bool :=
  (s.station.state.drives || (s.line.markDrive == .released && s.line.tallyDrive == .released))
    && (s.timer.phase.isCounting || s.line.markDrive == .released)

/-! ### Nonce register (R24) -/

/-- The nonce register is never zero (R24). -/
def State.nonceNonzero (s : State) : Bool := s.round.nonceRegister != 0

/-! ### Roster (R97, R101) -/

/-- The miss count that goes with a record's state (R101). -/
def PeerRecord.missCountRight (missLimit : Nat) (p : PeerRecord) : Bool :=
  match p.state with
  | .absent | .present => p.missCount == 0
  | .missing => 1 ≤ p.missCount && p.missCount + 1 ≤ missLimit
  | .lost => p.missCount == missLimit

/-- The roster holds 32 records, each with the miss count of its state. In OFF the miss limit may have
been rewritten since the records were made (R110), so there the counts are not compared with it. -/
def State.rosterRight (s : State) : Bool :=
  s.roster.length == 32
    && (s.station.state == .off || s.roster.all (·.missCountRight s.items.missLimit))

/-! ### Exposure schedule (R53, R54) -/

/-- The targets the schedule must hold, by phase (R54): none in OFF; the two primed in the lead-in; two
from a frame start to the window close of its frame, three from there to the next frame start. -/
def State.scheduledTargets (s : State) : List FrameNo :=
  match s.rows.phase with
  | .idle => []
  | .leadIn => [s.timer.next, s.timer.next + 1]
  | .frame =>
    [s.timer.current, s.timer.current + 1]
      ++ (if s.round.window = .closed then [s.timer.current + 2] else [])

/-- The law of R54: the targets present are these, in this order. -/
def State.scheduleRight (s : State) : Bool := s.schedule.map (·.target) == s.scheduledTargets

/-- A list of slots ascending without repeats (R22). -/
def ascending : List Nat → Bool
  | a :: b :: rest => a < b && ascending (b :: rest)
  | _ => true

/-- The ranges and presences of an entry's fields (R53). -/
def Entry.inRange (T : Nat) (e : Entry) : Bool :=
  e.arrayExv ≤ 4095 && e.localExv ≤ 4095 && e.step ≤ 63 && (1 ≤ e.time && e.time + 1 ≤ T)
    && e.gain ≤ 255
    && (match e.source, e.agreeing with
        | .agreed, some set | .kept, some set | .held, some set =>
          (1 ≤ set.length && set.length ≤ 32) && set.all (· ≤ 31) && ascending set
        | .void, none | .local, none => true
        | _, _ => false)

/-- An entry's local EXV, step, time and gain are what R52 computes from its array EXV: the clamped sum, and
the step in use with the greatest threshold not greater than it. -/
def Entry.byLadder (it : Items) (e : Entry) : Prop :=
  (e.localExv : Int) = max 0 (min ((e.arrayExv : Int) + it.offset) 4095) ∧ e.step < it.ladderCount ∧
    ∃ st, it.ladder[e.step]? = some st ∧ st.threshold ≤ e.localExv ∧ e.time = st.time ∧ e.gain = st.gain
      ∧ ∀ j st', j < it.ladderCount → it.ladder[j]? = some st' → st'.threshold ≤ e.localExv →
        st'.threshold ≤ st.threshold

/-- An entry created with these fields, its other fields by R52 (R53). -/
def Entry.made (it : Items) (target deciding : FrameNo) (source : Source) (exv : Nat)
    (agreeing : Option (List Nat)) (e : Entry) : Prop :=
  e.target = target ∧ e.deciding = deciding ∧ e.source = source ∧ e.arrayExv = exv
    ∧ e.agreeing = agreeing ∧ e.byLadder it

/-- S moved toward a wanted value by at most a limit (R49, R50). -/
def movedToward (limit S wanted : Nat) : Nat :=
  if S + limit < wanted then S + limit else if wanted + limit < S then S - limit else wanted

/-- The value of a LOCAL entry: S while the host holds or the meter does not propose, else S moved toward
the desired value (R49). -/
def ownValue (it : Items) (S : Nat) (hold : Bool) (basis : MeterBasis) : Nat :=
  match basis.desired with
  | some d => if hold = false ∧ basis.propose = true then movedToward it.stepLimit S d else S
  | none => S

/-- Every entry of the schedule follows the ladder in force (R52, R60). -/
def State.scheduleByLadder (s : State) : Prop := ∀ e ∈ s.schedule, e.byLadder s.items

/-- A desired value is an EXV (R118). -/
def exvPresent (d : Option Nat) : Bool := d.all (· ≤ 4095)

/-- Every exposure value in the part is an EXV, and outside OFF every entry and plan lies in its ranges
(R42, R53, R118, R122, R127). -/
def State.exposuresInRange (s : State) : Bool :=
  s.agree.standing ≤ 4095
    && (s.station.state == .off
        || s.schedule.all (·.inRange s.items.framePeriod)
          && (s.rows.current.all fun p => (1 ≤ p.time && p.time + 1 ≤ s.items.framePeriod)
              && p.gain ≤ 255 && p.arrayExv ≤ 4095)
          && (s.rows.nextTime.all fun e => 1 ≤ e && e + 1 ≤ s.items.framePeriod))
    && (s.meter.frame.all fun f => f.2 ≤ 4095)
    && (s.meter.latest.all fun r => r.arrayExv ≤ 4095 && exvPresent r.desired)
    && (s.round.offers.all fun o =>
        o.standing ≤ 4095 && exvPresent o.proposal && exvPresent o.basis.desired)

/-! ### Counts (R62, R79, R111, R122, R125, R142, R164) -/

/-- The row below which the rows of the frame now open have been offered: the slot now counting, or the
pending row (R128, R138). -/
def State.rowsOffered (s : State) : Nat :=
  match s.rows.pendingRow, s.timer.phase with
  | some p, _ => p.row
  | none, .counting k => k
  | none, _ => 0

/-- The greatest sample count: 2048 rows of 4096 columns (R111). -/
def mostSamples : Nat := 8388608

/-- The meter's counts (R111): fourteen bins that add up to the sample count, no more than 4096 samples for
each window row taken, and no more window rows than rows of the frame so far. -/
def State.meterCountsInRange (s : State) : Bool :=
  s.meter.bins.length == 14 && s.meter.bins.all (· ≤ 16777215)
    && s.meter.bins.sum == s.meter.samples
    && s.meter.samples ≤ mostSamples && s.meter.samples ≤ 4096 * s.meter.windowRows
    && s.meter.windowRows ≤ 2048
    && (s.meter.phase != .collecting || s.meter.windowRows ≤ s.rowsOffered)

/-- The counts of a meter result (R122). -/
def MeterResult.countsInRange (r : MeterResult) : Bool :=
  r.samples ≤ mostSamples && r.bins.length == 14 && r.bins.all (· ≤ 16777215)
    && r.percentileBin.all (· ≤ 13) && r.error.all (fun e => e.natAbs ≤ 12)

/-- Every count that the tables of the blocks bound lies in its range: the station controller's counts and
the settle counter (those that an item bounds are 0 in OFF), the wait timer, the mark lag, the meter's
counts and its latest result's, the frame fault count, the frame counts, the skip counter, the lost count
and the eight counters. The miss counts and the budgets have predicates of their own. -/
def State.countsInRange (s : State) : Bool :=
  (match s.station.state with
    | .off =>
      s.station.joinCount == 0 && s.station.voidCount == 0 && s.station.listenCount == 0
        && s.meter.settle == 0
    | st =>
      s.station.joinCount ≤ s.items.joinCount && s.station.voidCount < s.items.voidLimit
        && s.station.listenCount + (if st = .listen then 1 else 0) ≤ s.items.listenTimeout
        && s.meter.settle < s.items.settleCount)
    && (match s.timer.phase with
        | .wait w => w ≤ s.items.markPatience
        | .idle | .leadIn _ | .counting _ => true)
    && s.timer.markLag ≤ 255
    && s.meterCountsInRange && s.meter.latest.all (·.countsInRange)
    && s.rows.faultCount ≤ 65535
    && s.out.delivered + s.out.dropped ≤ 2048
    && (s.station.state == .off || s.out.delivered + s.out.dropped ≤ s.items.rowsRead)
    && s.out.skip ≤ 255 && s.out.lost ≤ 255
    && s.port.counters.toList.all (· ≤ counterTop)

/-! ### Notices (R150) -/

/-- The state once these notices have been created in this order (R150): as many as the list of 8 has room
for are kept, the rest are counted as lost, and the attention flag is set if there was one; an open
status read then knows of it (R163). -/
def State.afterNotices (ns : List Notice) (s : State) : State :=
  let room := 8 - s.out.notices.length
  let more := ns.length - room
  { s with
    out := { s.out with
      notices := s.out.notices ++ ns.take room
      lost := if more = 0 then s.out.lost else min (s.out.lost + more) 255 }
    port := { s.port with
      attention := s.port.attention || !ns.isEmpty
      counters := { s.port.counters with
        noticesLost :=
          if more = 0 then s.port.counters.noticesLost
          else min (s.port.counters.noticesLost + more) 4294967295 }
      transaction := s.port.transaction.map fun r =>
        { r with noticeSince := r.noticeSince || !ns.isEmpty } } }

/-- `ns` holds the notices of these blocks, each block's in its own order, the blocks in any order
(R150). -/
def interleaving (blocks : List (List Notice)) (ns : List Notice) : Prop :=
  ns.Perm blocks.flatten ∧ ∀ q ∈ blocks, q.Sublist ns

/-! ### A round opened, a frame opened -/

/-- The nonce register's bits 14 to 11 each combined with the bit below it: four steps' output bits
(R24). -/
def nextNonce (reg : BitVec 15) : Nonce := reg.extractLsb' 11 4 ^^^ reg.extractLsb' 10 4

/-- The tally interface as a mark leaves it (R2, R5, R7). -/
def TallyInterface.opensRound (drives : Bool) (l : TallyInterface) : TallyInterface :=
  { l with
    markReference := some .recessive, tallyDrive := .released, roundClock := some 0
    roundInProgress := true, driving := drives, withdrawn := false, faultNoted := false }

/-- The round engine as a mark leaves it, with the offers taken (R19, R21, R24). -/
def RoundEngine.opensRound (drives : Bool) (o : Offers) (r : RoundEngine) : RoundEngine where
  window := .marked
  drove := drives
  nonceRegister :=
    if drives then (r.nonceRegister <<< 4) ||| (nextNonce r.nonceRegister).setWidth 15
    else r.nonceRegister
  roundNonce := if drives then some (nextNonce r.nonceRegister) else none
  offers := some o
  checkRegister := 0xFF
  voidVote := false
  draft := ⟨[], drives, false, false, false⟩
  localClock := none

/-- The offers of a round opened in this state, on this meter basis (R21). -/
def State.offersOn (basis : MeterBasis) (s : State) : Offers where
  synced := s.station.state == .synced
  hold := s.agree.holdRequest
  standing := s.agree.standing
  proposal := if s.station.state = .synced ∧ basis.propose = true then basis.desired else none
  basis := basis
  nextFrame := none

/-- The round engine as a local frame start leaves it (R35). -/
def State.localWindow (s : State) : RoundEngine :=
  { s.round with
    window := .local
    drove := false
    roundNonce := none
    offers := some ⟨false, s.agree.holdRequest, s.agree.standing, none, s.meter.basis, none⟩
    draft := .empty
    localClock := some 0 }

/-- The schedule's two entries at a frame start: the ended frame's entry retired, any entry appended, and
the targets moved by the renumbering (R57, R59). -/
def State.entriesNext (appended : List Entry) (s : State) : List Entry :=
  ((if s.rows.phase = .frame then s.schedule.drop 1 else s.schedule) ++ appended).map fun e =>
    { e with target := e.target + (s.timer.next - (s.timer.current + 1)) }

/-- The state once a frame start has reached the frame timer, the schedule, the row engine, the meter and
the output unit (R68, R75, R114, R127, R144, R145): `first` and `second` are the schedule's entries, and
`resets` the rows caught up. -/
def State.opensFrame (kind : StartKind) (lag : Nat) (first second : Entry) (resets : List Nat)
    (s : State) : State :=
  { s with
    timer := ⟨.counting 0, s.timer.next, s.timer.next + 1, some kind, lag, false⟩
    schedule := [first, second]
    meter := { s.meter with
      phase := .collecting, frame := some (s.timer.next, first.arrayExv)
      bins := List.replicate 14 0, samples := 0, windowRows := 0 }
    rows := { s.rows with
      phase := .frame
      current := some ⟨s.timer.next, first.time, first.gain, first.arrayExv⟩
      nextTime := some second.time
      faultCount := 0, tailOffered := false, endRowMissed := false
      irregular := decide (kind = .cut)
      queue := s.rows.queue ++ .gain first.gain :: resets.map .reset
      catchUp := [] }
    out :=
      if s.out.controlHeld + 2 ≤ 8 then { s.out with
        queue := s.out.queue ++ [.head ⟨s.timer.next, first, lag, s.out.skip, s.station.state,
          decide (s.agree.quorumFlag = .met)⟩]
        controlHeld := s.out.controlHeld + 2
        position := .opened, admission := .admitted, delivered := 0, dropped := 0, skip := 0 }
      else { s.out with admission := .skipped, skip := min (s.out.skip + 1) 255 }
    port := { s.port with counters := { s.port.counters with
      framesSkipped :=
        if s.out.controlHeld + 2 ≤ 8 then s.port.counters.framesSkipped
        else min (s.port.counters.framesSkipped + 1) 4294967295 } } }

/-- The frame that a mark cuts (R70, R133, R138, R147): before its read end it has the invalid result `r`
and, if admitted, its TAIL with CUT; a pending row becomes the discard row, and with none pending the
discard row stands (log entry 26). -/
def State.endsCut (r : MeterResult) (s : State) : State :=
  { s with
    meter :=
      if s.timer.readEndPassed = true then s.meter
      else { s.meter with latest := some r, settle := 0 }
    rows := { s.rows with
      discardRow :=
        if s.rows.pendingRow = none then s.rows.discardRow else s.rows.pendingRow.map (·.row)
      pendingRow := none }
    out :=
      if s.timer.readEndPassed = true then s.out
      else match s.out.admission with
        | .admitted => { s.out with
          queue := s.out.queue ++ [.tail ⟨s.timer.current, s.out.delivered, s.out.dropped,
            s.rows.faultCount, false, r.percentileBin, s.meter.bins.getD 13 0, true, false,
            s.rows.irregular⟩]
          position := .gap, admission := .none }
        | .skipped => { s.out with admission := .none }
        | .none => s.out }

/-- The rows caught up after a cut in slot k, the new frame's time being e (R133). -/
def State.rowsCaughtUp (k e : Nat) (s : State) : List Nat :=
  (List.range (min e s.items.rowsRead)).filter fun row => decide (k + e ≤ s.items.framePeriod + row)

/-! ### The meter's result (R117, R118) -/

/-- The percentile bin: the first bin at which the running total reaches ceil(p × N / 64); none for no
samples (R118). -/
def percentileFits (p n : Nat) (bins : List Nat) : Option Nat → Prop
  | none => n = 0
  | some b =>
    1 ≤ n ∧ b < bins.length ∧ (bins.take b).sum * 64 < p * n ∧ p * n ≤ (bins.take (b + 1)).sum * 64

/-- An invalid result for the frame the meter collects (R119). -/
def Meter.invalidResult (it : Items) (m : Meter) (r : MeterResult) : Prop :=
  r.frame = (m.frame.map (·.1)).getD 0 ∧ r.arrayExv = (m.frame.map (·.2)).getD 0
    ∧ r.samples = m.samples ∧ r.bins = m.bins ∧ r.valid = false ∧ r.error = none ∧ r.desired = none
    ∧ r.stateAfter = m.state ∧ r.propose = false
    ∧ percentileFits it.percentile m.samples m.bins r.percentileBin

/-! ### Output stream (R143, R148, R151) -/

/-- The notice list holds at most 8 notices (R151). -/
def State.noticesBounded (s : State) : Bool := s.out.notices.length ≤ 8

/-- Where a reader of the stream stands: between frames, or in a frame of which rows below `next` have
been passed (R148). -/
inductive StreamShape where
  | gap
  | inFrame (frame : FrameNo) (next : Nat)
  deriving DecidableEq, Repr

/-- One record of the stream, or none where the shape of R148 has no place for it. -/
def StreamShape.read : StreamShape → StreamRecord → Option StreamShape
  | .gap, .head h => some (.inFrame h.frame 0)
  | .gap, .notice _ _ => some .gap
  | .inFrame f next, .row r => if r.frame = f ∧ next ≤ r.row then some (.inFrame f (r.row + 1)) else none
  | .inFrame f _, .tail t => if t.frame = f then some .gap else none
  | .gap, .row _ | .gap, .tail _ | .inFrame _ _, .head _ | .inFrame _ _, .notice _ _ => none

/-- A run of records. -/
def StreamShape.readAll : StreamShape → List StreamRecord → Option StreamShape
  | shape, [] => some shape
  | shape, r :: rest => (shape.read r).bind fun next => next.readAll rest

/-- The queue, read from somewhere, leads to where the stream position says: between frames, or in the
frame now running with no row yet to come passed (R142, R148). -/
def State.streamShaped (s : State) : Prop :=
  ∃ start ending : StreamShape, start.readAll s.out.queue = some ending ∧
    match s.out.position, ending with
    | .gap, .gap => True
    | .opened, .inFrame f next => f = s.timer.current ∧ next ≤ s.rowsOffered
    | _, _ => False

/-- The budgets are what the queue and the reservation take, and are never exceeded (R143, R149); the
front record still has a word to send. -/
def State.budgetsRight (s : State) : Bool :=
  s.out.controlHeld
      == (s.out.queue.map (·.controlEntries)).sum + (if s.out.position = .opened then 1 else 0)
    && s.out.rowsHeld == (s.out.queue.map (·.rowEntries)).sum
    && s.out.pixelsHeld == (s.out.queue.map (·.pixelEntries)).sum
    && s.out.controlHeld ≤ 8 && s.out.rowsHeld ≤ 16 && s.out.pixelsHeld ≤ 16384
    && (match s.out.queue with
        | [] => s.out.accepted == 0
        | r :: _ => s.out.accepted < r.words.length)

/-- A frame is admitted or skipped only while it runs before its read end, the end of slot H; its stream is
open exactly when it is admitted; the rows counted are rows offered (R63, R142, R144, R147). -/
def State.admissionRight (s : State) : Bool :=
  (match s.timer.phase, s.timer.readEndPassed with
    | .counting k, false => decide (k ≤ s.items.rowsRead) && s.out.admission != .none
    | .counting k, true => decide (s.items.rowsRead ≤ k) && s.out.admission == .none
    | _, _ => s.out.admission == .none)
    && (s.out.position == .opened) == (s.out.admission == .admitted)
    && (s.out.admission != .admitted || s.out.delivered + s.out.dropped ≤ s.rowsOffered)

/-- The pending row is the row whose READ the last slot carried, and its deadline is the end of the slot
now counting (R128, R136); it is settled by the read end. -/
def State.pendingRight (s : State) : Bool :=
  match s.rows.pendingRow with
  | none => true
  | some p =>
    p.row < s.items.rowsRead && !s.timer.readEndPassed
      && s.timer.phase == .counting (p.row + 1) && p.deadline == p.row + 1

/-- The TAIL has been offered exactly when the frame's read end has passed or no frame is counted before
it (R138, R147). -/
def State.tailRight (s : State) : Bool :=
  match s.rows.phase with
  | .frame => s.rows.tailOffered == (s.out.admission == .none)
  | .idle | .leadIn => !s.rows.tailOffered

/-- The output stream's laws together (R143, R148). -/
def State.streamRight (s : State) : Prop :=
  s.streamShaped ∧ s.budgetsRight = true ∧ s.admissionRight = true ∧ s.pendingRight = true
    ∧ s.tailRight = true

end Sys2Proof.Machine
end

