-- ==== Sys2Proof/Certificates/Slice0/Obligations.lean ====
section
/-! DEFINITION. The statements for the provers. A statement that rests on a choice of the model says so and
names the log entry (notes/assumptions). -/

open Sys2Proof Sys2Proof.Machine

/-! ### The block's step -/

/-- The front command is carried out on the state with the queue's rest; on an empty queue the block
idles (log entry 1: the model's choice). -/
def Obligations.StepRunsFrontCommand : Prop :=
  (∀ (c : Instr) (s : State) (rest : List Instr),
    s.pending = c :: rest → step s = exec c { s with pending := rest }) ∧
  ∀ s : State, s.pending = [] → step s = .next s

/-- No command stops the part, and none touches the queue of waiting commands. -/
def Obligations.EveryCommandCompletes : Prop :=
  ∀ (c : Instr) (s : State), ∃ t, exec c s = .next t ∧ t.pending = s.pending

/-! ### Reset (R2, R19, R42, R54, R62, R79, R97, R111, R125, R142, R155, R165) -/

/-- The values after power-on reset that the manual's tables give, block by block, in the state after RESET_N
rose (log entry 19). -/
def Obligations.ResetHoldsPowerOnValues : Prop :=
  (State.reset.line.markDrive = .released ∧ State.reset.line.tallyDrive = .released
    ∧ State.reset.line.markReference = none ∧ State.reset.line.roundClock = none
    ∧ State.reset.line.roundInProgress = false ∧ State.reset.line.driving = false
    ∧ State.reset.line.withdrawn = false ∧ State.reset.line.standing = .inField
    ∧ State.reset.line.faultNoted = false ∧ State.reset.line.holdClock = none) ∧
  (State.reset.round.window = .closed ∧ State.reset.round.drove = false
    ∧ State.reset.round.nonceRegister = 1 ∧ State.reset.round.roundNonce = none
    ∧ State.reset.round.offers = none ∧ State.reset.round.checkRegister = 0xFF
    ∧ State.reset.round.voidVote = false ∧ State.reset.round.draft.bits = []
    ∧ State.reset.round.localClock = none) ∧
  State.reset.station = ⟨.off, 0, 0, 0, false, false⟩ ∧
  State.reset.timer = ⟨.idle, 65535, 0, none, 0, false⟩ ∧
  State.reset.roster = List.replicate 32 ⟨.absent, 0, none⟩ ∧
  State.reset.agree = ⟨2048, false, .undecided⟩ ∧
  State.reset.schedule = [] ∧
  State.reset.meter = ⟨.idle, none, List.replicate 14 0, 0, 0, .seeking, 0, none⟩ ∧
  (State.reset.rows.phase = .idle ∧ State.reset.rows.current = none
    ∧ State.reset.rows.nextTime = none ∧ State.reset.rows.catchUp = []
    ∧ State.reset.rows.pendingRow = none ∧ State.reset.rows.discardRow = none
    ∧ State.reset.rows.delivery = none ∧ State.reset.rows.faultCount = 0
    ∧ State.reset.rows.irregular = false ∧ State.reset.rows.tailOffered = false
    ∧ State.reset.rows.queue = []) ∧
  State.reset.out = ⟨[], 0, 0, 0, .gap, .none, 0, 0, 0, [], 0, 0⟩ ∧
  (State.reset.port.result = .ok ∧ State.reset.port.startError = .none
    ∧ State.reset.port.counters = ⟨0, 0, 0, 0, 0, 0, 0, 0⟩ ∧ State.reset.port.attention = false
    ∧ State.reset.port.transaction = none
    ∧ State.reset.items =
      { slot := 0, seed := 1, bitTime := 160, rowTime := 1600, framePeriod := 1000, rowsRead := 960
        rowWidth := 1280, markPatience := 50, listenTimeout := 8, joinCount := 2, voidLimit := 4
        missLimit := 3, expectedSet := 0, quorum := 1, policy := .span, stepLimit := 16
        initialExv := 2048, offset := 0, ladderCount := 1
        ladder := ⟨0, 500, 0⟩ :: List.replicate 63 ⟨0, 1, 0⟩
        r0 := 0, r1 := 959, c0 := 0, c1 := 1279, subsample := 4, minSamples := 256
        percentile := 32, targetBin := 8, clipLimit := 2, bias := 0, innerBand := 1
        outerBand := 2, settleCount := 2 })

/-- POWER_ON_RESET takes every block to its power-on values at once, from any state, and holds the port idle
(R83, R165); the model's own counter and queue stand (log entry 7), and its own `heldRead`,
`endRowMissed` and `referenceAtJoin` take their reset values (entries 8, 17 and 32). While RESET_N is low,
or until SEL_N has been high after it, no transaction is taken; RESET_RELEASE with SEL_N high, or the rise
of SEL_N after it, makes the port ready (R165; the operand and TRANSACTION_ABANDONED for that rise: log
entry 18). -/
def Obligations.PowerOnResetHoldsThePort : Prop :=
  (∀ s : State, ∃ t, exec .powerOnReset s = .next t
    ∧ t = { State.reset with
        port := { State.reset.port with mode := .heldIdle }
        freeCount := s.freeCount, pending := s.pending }) ∧
  ((∀ s : State, s.port.mode ≠ .ready → ∀ (i : Byte) (w : Word) (m : Level),
    ∀ c ∈ [Instr.readItem i, .writeItem i w, .readRoster i, .readStatus, .start m, .stop, .holdOn,
        .holdOff, .unknownCommandByte i], exec c s = .next s) ∧
  (∀ s : State, s.port.mode = .heldIdle →
    exec (.resetRelease true) s = .next { s with port := { s.port with mode := .ready } }
    ∧ exec (.resetRelease false) s = .next { s with port := { s.port with mode := .awaitSelHigh } }
    ∧ exec .transactionAbandoned s = .next s) ∧
  (∀ (s : State) (b : Bool), s.port.mode ≠ .heldIdle → exec (.resetRelease b) s = .next s) ∧
  ∀ s : State, s.port.mode = .awaitSelHigh →
    exec .transactionAbandoned s
      = .next { s with port := { s.port with mode := .ready, transaction := none } })

/-! ### Control port (chapter 10) -/

/-- HOLD_ON sets the hold request, HOLD_OFF clears it; both answer OK in every station state and change nothing
else (R43, R162). A byte that names no command is answered BAD_ITEM and does nothing; an abandoned
transaction leaves the command result as it stood and undoes nothing (R156; a read left open is closed: log entry 21). -/
def Obligations.HoldCommandsAndVoidTransactions : Prop :=
  (∀ s : State, s.port.mode = .ready →
    exec .holdOn s = .next { s with
      agree := { s.agree with holdRequest := true }
      port := { s.port with result := .ok, transaction := none } } ∧
    exec .holdOff s = .next { s with
      agree := { s.agree with holdRequest := false }
      port := { s.port with result := .ok, transaction := none } }) ∧
  (∀ s : State, s.port.mode = .ready →
    (∀ code : Byte, exec (.unknownCommandByte code) s
      = .next { s with port := { s.port with result := .badItem, transaction := none } }) ∧
    exec .transactionAbandoned s = .next { s with port := { s.port with transaction := none } })

/-- READ_ITEM takes the word of the item or counter as it stands, zero and BAD_ITEM for an index that
names none, and changes nothing but the open transaction (R158, R164, R168; when BAD_ITEM is set: log
entry 20). -/
def Obligations.ReadItemTakesTheWord : Prop :=
  ∀ (s : State) (index : Byte), s.port.mode = .ready → s.items.inRange = true →
    ∃ t word answer, exec (.readItem index) s = .next t
      ∧ t = { s with port := { s.port with
          transaction := some ⟨[0x01, index], word, answer, false, false⟩ } }
      ∧ (∀ j n, index.toNat = 0xE0 + j → s.port.counters.toList[j]? = some n →
          word = BitVec.ofNat 32 n ∧ answer = .ok)
      ∧ (index.toNat < 0x1E ∨ 0x80 ≤ index.toNat ∧ index.toNat < 0xC0 →
          s.items.word index.toNat = some word ∧ answer = .ok)
      ∧ (0x1E ≤ index.toNat ∧ index.toNat < 0x80 ∨ 0xC0 ≤ index.toNat ∧ index.toNat < 0xE0
          ∨ 0xE8 ≤ index.toNat → word = 0 ∧ answer = .badItem)

/-- The word of each configuration item holds its value where R168 places it and 0 elsewhere (R168, R169): the
right-aligned items by index, the two windows, the two signed items and the ladder steps. An item takes
exactly the words whose bits outside its fields are 0 and whose fields lie in its range (R159, R169,
section 10.4). -/
def Obligations.ItemWordsAndTheirRanges : Prop :=
  (∀ it : Items, it.inRange = true →
    (∀ p ∈ [(0x00, it.slot), (0x01, it.seed), (0x02, it.bitTime), (0x03, it.rowTime),
        (0x04, it.framePeriod), (0x05, it.rowsRead), (0x06, it.rowWidth), (0x07, it.markPatience),
        (0x08, it.listenTimeout), (0x09, it.joinCount), (0x0A, it.voidLimit), (0x0B, it.missLimit),
        (0x0C, it.expectedSet.toNat), (0x0D, it.quorum),
        (0x0E, match it.policy with | .highlight => 0 | .shadow => 1 | .span => 2),
        (0x0F, it.stepLimit), (0x10, it.initialExv), (0x11, (it.offset % 4096).toNat),
        (0x12, it.ladderCount), (0x13, it.r0 * 65536 + it.r1), (0x14, it.c0 * 65536 + it.c1),
        (0x15, it.subsample), (0x16, it.minSamples), (0x17, it.percentile), (0x18, it.targetBin),
        (0x19, it.clipLimit), (0x1A, (it.bias % 256).toNat), (0x1B, it.innerBand),
        (0x1C, it.outerBand), (0x1D, it.settleCount)],
      (it.word p.1).map (·.toNat) = some p.2) ∧
    ∀ (n : Nat) (st : LadderStep), it.ladder[n]? = some st →
      (it.word (0x80 + n)).map (·.toNat)
        = some (st.gain * 2 ^ 24 + st.threshold * 2 ^ 12 + st.time)) ∧
  (∀ (it : Items) (w : Word),
    (∀ p ∈ [(0x00, 0, 31), (0x01, 0, 32767), (0x02, 16, 1023), (0x03, 64, 65535), (0x04, 2, 4096),
        (0x05, 1, 2048), (0x06, 16, 4096), (0x07, 1, 4095), (0x08, 2, 255), (0x09, 1, 7),
        (0x0A, 2, 15), (0x0B, 1, 7), (0x0C, 0, 4294967295), (0x0D, 1, 32), (0x0E, 0, 2),
        (0x0F, 1, 1024), (0x10, 0, 4095), (0x11, 0, 4095), (0x12, 0, 64), (0x16, 16, 65535),
        (0x17, 1, 63), (0x18, 1, 12), (0x19, 0, 63), (0x1A, 0, 255), (0x1B, 0, 3), (0x1C, 1, 6),
        (0x1D, 1, 7)],
      (it.write p.1 w).isSome = true ↔ p.2.1 ≤ w.toNat ∧ w.toNat ≤ p.2.2) ∧
    ((it.write 0x15 w).isSome = true ↔ w.toNat = 1 ∨ w.toNat = 2 ∨ w.toNat = 4) ∧
    ((it.write 0x13 w).isSome = true ↔ w.toNat / 65536 ≤ 2047 ∧ w.toNat % 65536 ≤ 2047) ∧
    ((it.write 0x14 w).isSome = true ↔ w.toNat / 65536 ≤ 4095 ∧ w.toNat % 65536 ≤ 4095) ∧
    ∀ n, n < 64 → ((it.write (0x80 + n) w).isSome = true ↔ 1 ≤ w.toNat % 4096))

/-- A word that an item takes is the word it then reads back, and no other item's word changes (R158,
R159). -/
def Obligations.WrittenItemReadsBack : Prop :=
  ∀ (it new : Items) (index : Nat) (w : Word), it.inRange = true →
    isConfigIndex index = true → it.write index w = some new →
    new.inRange = true ∧ new.word index = some w
      ∧ ∀ other, other ≠ index → new.word other = it.word other

/-- WRITE_ITEM by the first case of R159 that applies; the refusals change no item (R159, R160). -/
def Obligations.WriteItemByFirstCase : Prop :=
  ∀ (s : State) (index : Byte) (w : Word), s.port.mode = .ready →
    (¬ (index.toNat < 0x1E ∨ 0x80 ≤ index.toNat ∧ index.toNat < 0xC0) →
      exec (.writeItem index w) s
        = .next { s with port := { s.port with result := .badItem, transaction := none } }) ∧
    ((index.toNat < 0x1E ∨ 0x80 ≤ index.toNat ∧ index.toNat < 0xC0) →
      (s.station.state ≠ .off → exec (.writeItem index w) s
        = .next { s with port := { s.port with result := .refusedRunning, transaction := none } }) ∧
      (s.station.state = .off → s.items.write index.toNat w = none → exec (.writeItem index w) s
        = .next { s with port := { s.port with result := .badValue, transaction := none } }) ∧
      ∀ new, s.station.state = .off → s.items.write index.toNat w = some new →
        exec (.writeItem index w) s
          = .next { s with port :=
              { s.port with items := new, result := .ok, transaction := none } })

/-- READ_ROSTER: a slot's record word and arrival word, the three summary words, and BAD_ITEM beyond
(R108, R109, R168; when BAD_ITEM is set: log entry 20); nothing changes but the open transaction. -/
def Obligations.ReadRosterTakesTheWord : Prop :=
  ∀ (s : State) (index : Byte), s.port.mode = .ready → s.roster.length = 32 →
    ∃ t word answer, exec (.readRoster index) s = .next t
      ∧ t = { s with port := { s.port with
          transaction := some ⟨[0x21, index], word, answer, false, false⟩ } }
      ∧ (∀ p, index.toNat < 32 → s.roster[index.toNat]? = some p → p.missCount ≤ 7 →
          answer = .ok ∧ word.toNat =
            (match p.state with | .absent => 0 | .present => 1 | .missing => 2 | .lost => 3) * 2 ^ 30
              + p.missCount * 2 ^ 27 + p.seen.isSome.toNat * 2 ^ 26
              + (decide (index.toNat = s.items.slot)).toNat * 2 ^ 25
              + (s.items.expectedSet.getLsbD index.toNat).toNat * 2 ^ 24
              + (match p.seen with | some v => v.nonce.toNat | none => 0) * 2 ^ 20
              + (match p.seen with | some v => v.lastSeen.toNat | none => 0))
      ∧ (∀ n p, index.toNat = 32 + n → n < 32 → s.roster[n]? = some p →
          answer = .ok ∧ word.toNat =
            p.seen.isSome.toNat * 2 ^ 16 + (match p.seen with | some v => v.arrival.toNat | none => 0))
      ∧ (∀ st, (index.toNat = 64 ∧ st = PeerState.present ∨ index.toNat = 65 ∧ st = .missing
            ∨ index.toNat = 66 ∧ st = .lost) →
          answer = .ok ∧ ∀ n p, s.roster[n]? = some p →
            word.getLsbD n = decide (p.state = st))
      ∧ (67 ≤ index.toNat → word = 0 ∧ answer = .badItem)

/-- READ_STATUS takes the status word and changes nothing but the open transaction (R163, R168). -/
def Obligations.ReadStatusTakesTheWord : Prop :=
  ∀ s : State, s.port.mode = .ready →
    ∃ t word, exec .readStatus s = .next t
      ∧ t = { s with port := { s.port with
          transaction := some ⟨[0x20], word, .ok, true, false⟩ } }
      ∧ word.toNat =
        (match s.station.state with
          | .off => 0 | .listen => 1 | .joining => 2 | .synced => 3 | .barred => 4) * 2 ^ 29
        + (match s.meter.state with | .seeking => 0 | .settled => 1) * 2 ^ 28
        + s.agree.holdRequest.toNat * 2 ^ 27
        + (match s.agree.quorumFlag with | .met => 1 | _ => 0) * 2 ^ 26
        + (match s.port.startError with
            | .none => 0 | .badGeometry => 1 | .roundTooLong => 2 | .badLadder => 3
            | .badWindow => 4 | .badBands => 5) * 2 ^ 23
        + s.port.attention.toNat * 2 ^ 22

/-- LAST_DATA_BYTE_SENT sets the result of the open read; after a status read it clears the attention
flag, unless a notice was created since the word was taken (R157, R158, R163). And what the port returns:
the code of the last result in the first byte time, the word taken in the data bytes of a read, most
significant byte first, zero in every byte time after a transaction's last byte and while RESET_N is low;
ATTN is high while the attention flag is set (R156, R157, R163, R165, R168). That a bad index sets its
result at the last data byte is log entry 20; the byte times in which nothing is stated of SDO, entry 23. -/
def Obligations.LastDataByteCompletesTheRead : Prop :=
  (∀ (s : State) (r : Transaction), s.port.transaction = some r →
    exec .lastDataByteSent s = .next { s with port := { s.port with
      result := r.answer
      transaction := none
      attention :=
        if r.clearsAttention = true ∧ r.noticeSince = false then false else s.port.attention } }) ∧
  (∀ (s t u : State) (n : Notice), s.port.mode = .ready → exec .readStatus s = .next t →
    (exec .lastDataByteSent t = .next u → u.port.attention = false ∧ u.port.result = .ok) ∧
    (exec .lastDataByteSent (t.createNotice n) = .next u →
      u.port.attention = true ∧ u.port.result = .ok)) ∧
  ∀ s : State,
    s.attn = s.port.attention
    ∧ s.port.firstByte.toNat =
      (if s.port.mode = .heldIdle then 0 else match s.port.result with
        | .ok => 0 | .refusedRunning => 1 | .badItem => 2 | .badValue => 3 | .configError => 4)
    ∧ (∀ r, s.port.transaction = some r → s.port.dataWord = some r.word ∧
        ∀ k, s.port.sdoByte k =
          if k < 4 then BitVec.ofNat 8 (r.word.toNat / 2 ^ (24 - 8 * k)) else 0)
    ∧ (s.port.transaction = none → s.port.dataWord = none ∧ ∀ k, s.port.sdoByte k = 0)

/-- The bits a host sends for a command, eight to a byte and most significant first, are received as the
command's bytes and decode to that command, and bytes after the last one change nothing; a byte cut short
is not received, and a WRITE_ITEM short of its last data byte decodes to none (R156, R168). -/
def Obligations.TransactionBytesDecode : Prop :=
  (∀ (c : Instr) (bytes extra : List Byte) (m : Level), c.wellFormed = true →
    transactionBytes c = some bytes → (∀ m', c = .start m' → m' = m) →
    decodeTransaction m (bytes ++ extra) = some c
    ∧ decodeTransaction m (bytesOfBits [] ((bytes ++ extra).flatMap serialBits)) = some c) ∧
  (∀ (m : Level) (rest : List Byte), rest.length < 5 → decodeTransaction m (0x02 :: rest) = none) ∧
  (∀ (bytes : List Byte) (cut : List Bool), cut.length < 8 →
    bytesOfBits [] (bytes.flatMap serialBits ++ cut) = bytes) ∧
  ∀ b : Byte, (serialBits b).length = 8
    ∧ ∀ i, i < 8 → (serialBits b)[i]? = some (b.toNat.testBit (7 - i))

/-! ### START and STOP (R81, R82, R161, R162) -/

/-- START outside OFF is REFUSED_RUNNING; in OFF the first check of R161 that fails is recorded and nothing
else changes; when none fails, START passes (R161). -/
def Obligations.StartIsRefusedByTheFirstFailingCheck : Prop :=
  ∀ (s : State) (m : Level), s.port.mode = .ready →
    let it := s.items
    let refusedBy (e : StartError) : Prop := exec (.start m) s = .next { s with
      port := { s.port with startError := e, result := .configError, transaction := none } }
    let geometry := it.framePeriod ≤ it.rowsRead ∨ it.rowWidth % 2 = 1
    let tooLong := it.framePeriod * it.rowTime < 240 * it.bitTime
    let ladder := it.ladderCount = 0 ∨ (∃ a, it.ladder[0]? = some a ∧ a.threshold ≠ 0)
      ∨ (∃ i a b, i + 1 < it.ladderCount ∧ it.ladder[i]? = some a ∧ it.ladder[i + 1]? = some b
          ∧ b.threshold ≤ a.threshold)
      ∨ ∃ i a, i < it.ladderCount ∧ it.ladder[i]? = some a ∧ it.framePeriod - 1 < a.time
    let window := it.r1 < it.r0 ∨ it.rowsRead ≤ it.r1 ∨ it.c1 < it.c0 ∨ it.rowWidth ≤ it.c1
    let bands := it.outerBand ≤ it.innerBand
    (s.station.state ≠ .off → exec (.start m) s
      = .next { s with port := { s.port with result := .refusedRunning, transaction := none } }) ∧
    (s.station.state = .off → it.inRange = true →
      (geometry → refusedBy .badGeometry) ∧
      (¬ geometry → tooLong → refusedBy .roundTooLong) ∧
      (¬ geometry → ¬ tooLong → ladder → refusedBy .badLadder) ∧
      (¬ geometry → ¬ tooLong → ¬ ladder → window → refusedBy .badWindow) ∧
      (¬ geometry → ¬ tooLong → ¬ ladder → ¬ window → bands → refusedBy .badBands) ∧
      (¬ geometry → ¬ tooLong → ¬ ladder → ¬ window → ¬ bands → it.startCheck = .none))

/-- START with a valid configuration: every block takes its START values, the schedule is primed with the
entries of frames 0 and 1, the lead-in begins, and STATE_CHANGED carries frame 65535. The counters are
zeroed before that notice is created (log entry 16); `heldRead`, `endRowMissed`, the word last begun on
SC_CMD and `referenceAtJoin` are the model's (entries 8, 17, 22 and 32). -/
def Obligations.StartBeginsTheLeadIn : Prop :=
  ∀ (s : State) (m : Level), s.port.mode = .ready → s.station.state = .off →
    s.items.inRange = true → s.items.startCheck = .none →
    ∃ e0 e1, e0.made s.items 0 65535 .local s.items.initialExv none
      ∧ e1.made s.items 1 65535 .local s.items.initialExv none
      ∧ exec (.start m) s = .next (State.afterNotices
          [⟨65535, .stateChanged .off .listen .start⟩]
          { s with
            line := { State.reset.line with markReference := some m }
            round := { State.reset.round with
              nonceRegister := if s.items.seed = 0 then 1 else BitVec.ofNat 15 s.items.seed }
            station := { State.reset.station with state := .listen }
            timer := ⟨.leadIn 0, 65535, 0, none, 0, false⟩
            roster := List.replicate 32 ⟨.absent, 0, none⟩
            agree := ⟨s.items.initialExv, s.agree.holdRequest, .undecided⟩
            schedule := [e0, e1]
            meter := State.reset.meter
            rows := { State.reset.rows with
              phase := .leadIn, nextTime := some e0.time, sending := s.rows.sending }
            out := { s.out with admission := .none, delivered := 0, dropped := 0, skip := 0 }
            port := { s.port with
              counters := ⟨0, 0, 0, 0, 0, 0, 0, 0⟩, startError := .none, result := .ok
              transaction := none } })

/-- STOP in OFF answers OK and does nothing further. Outside OFF every block takes its STOP values and
STATE_CHANGED carries the number of the stopped frame; a frame stopped before its read end has an invalid
meter result, and its STOPPED TAIL if it was admitted (R78, R82, R119, R139, R154, R162; `heldRead`,
`endRowMissed`, the word last begun on SC_CMD and `referenceAtJoin`: log entries 8, 17, 22 and 32). -/
def Obligations.StopEndsTheRun : Prop :=
  ∀ s : State, s.port.mode = .ready →
    (s.station.state = .off → exec .stop s
      = .next { s with port := { s.port with result := .ok, transaction := none } }) ∧
    (s.station.state ≠ .off → s.sound = true → s.countsInRange = true →
      ∃ (r : MeterResult) (endsFrame : Bool),
        (endsFrame = true ↔ s.timer.phase.isCounting = true ∧ s.timer.readEndPassed = false)
        ∧ s.meter.invalidResult s.items r
        ∧ exec .stop s = .next (State.afterNotices
          [⟨s.timer.current, .stateChanged s.station.state .off .stop⟩]
          { s with
            line := State.reset.line
            round := { State.reset.round with nonceRegister := s.round.nonceRegister }
            station := ⟨.off, 0, 0, 0, s.station.lineLow, s.station.slotBusy⟩
            timer := { s.timer with phase := .idle, startKind := none, readEndPassed := false }
            agree := ⟨s.agree.standing, false, .undecided⟩
            schedule := []
            meter := { s.meter with
              phase := .idle, settle := 0
              latest := if endsFrame then some r else s.meter.latest }
            rows := { State.reset.rows with
              faultCount := s.rows.faultCount, irregular := s.rows.irregular
              sending := s.rows.sending }
            out :=
              if endsFrame = true ∧ s.out.admission = .admitted then { s.out with
                queue := s.out.queue ++ [.tail ⟨s.timer.current, s.out.delivered, s.out.dropped,
                  s.rows.faultCount, false, r.percentileBin, s.meter.bins.getD 13 0, false, true,
                  s.rows.irregular⟩]
                position := .gap, admission := .none }
              else { s.out with admission := .none }
            port := { s.port with result := .ok, transaction := none } }))

/-! ### Row slots, read end, expiry and wait (R63, R64, R128 to R131, R136) -/

/-- The end of a slot of a frame with no deadline or read end left to take: it issues READ k, the late
reset of row k + E and the early reset of row k - (T - E'), in that order; after slot T - 1 the wait
begins and a holder releases MARK. EXPIRY is that last slot end, and is not due before it. In the lead-in
a slot carries frame 0's early reset alone, and no read end or deadline is due (R63, R64, R74, R128 to
R131, R141; log entries 2, 3 and 8 for what is not due, the shared slot end and the reference). -/
def Obligations.SlotEndsIssueReadsAndResets : Prop :=
  (∀ (s : State) (k : Nat) (p : Plan) (e : Nat), s.timer.phase = .counting k →
    k < s.items.framePeriod → s.rows.phase = .frame → s.rows.current = some p →
    s.rows.nextTime = some e → e < s.items.framePeriod →
    (∀ x, s.rows.pendingRow = some x → x.deadline ≠ k) →
    (k = s.items.rowsRead → s.timer.readEndPassed = true) →
    let last := k + 1 = s.items.framePeriod
    exec .rowSlotEnd s = .next { s with
      timer := { s.timer with phase := if last then .wait 0 else .counting (k + 1) }
      line :=
        if last ∧ s.station.state.drives = true ∧ s.line.markDrive = .pulled then { s.line with
          markDrive := .released, holdClock := none, markReference := some s.line.heldRead }
        else s.line
      rows := { s.rows with
        queue := s.rows.queue
          ++ (if k < s.items.rowsRead then [.read k] else [])
          ++ (if k + p.time < s.items.rowsRead then [.reset (k + p.time)] else [])
          ++ (if s.items.framePeriod ≤ k + e ∧ k + e - s.items.framePeriod < min e s.items.rowsRead
              then [.reset (k + e - s.items.framePeriod)] else [])
        pendingRow := if k < s.items.rowsRead then some ⟨k, k + 1⟩ else s.rows.pendingRow
        discardRow := if k = 0 then none else s.rows.discardRow } }
    ∧ (last → exec .expiry s = exec .rowSlotEnd s)
    ∧ (¬ last → exec .expiry s = .next s)) ∧
  (∀ (s : State) (k e : Nat), s.timer.phase = .leadIn k → k < s.items.framePeriod →
    s.rows.phase = .leadIn → s.rows.current = none → s.rows.nextTime = some e →
    e < s.items.framePeriod → s.station.state = .listen →
    let last := k + 1 = s.items.framePeriod
    exec .rowSlotEnd s = .next { s with
      timer := { s.timer with phase := if last then .wait 0 else .leadIn (k + 1) }
      rows := { s.rows with
        queue := s.rows.queue
          ++ (if s.items.framePeriod ≤ k + e ∧ k + e - s.items.framePeriod < min e s.items.rowsRead
              then [.reset (k + e - s.items.framePeriod)] else []) } }
    ∧ (last → exec .expiry s = exec .rowSlotEnd s)
    ∧ (¬ last → exec .expiry s = .next s)
    ∧ exec .readEnd s = .next s ∧ exec .deadline s = .next s)

/-- The deadline of the pending row at the end of the slot now counting: the row is missing, a row fault
counted in the counter and, before the frame's TAIL, in the frame; the pending row becomes none (R136,
R138). The slot's end takes a deadline and a read end not yet taken before its own commands (R63, R136;
log entry 3); in any other slot, or with no row pending, DEADLINE is not due (log entry 2). That row H - 1
missed is remembered in `endRowMissed` is log entry 17; that the deadline and the READ of one slot end come
in one step, with no delivery between them, entry 34. -/
def Obligations.DeadlineComesBeforeTheSlotsCommands : Prop :=
  ∀ (s : State) (k : Nat), s.timer.phase = .counting k →
    (∀ x, s.rows.pendingRow = some x → x.deadline = k → exec .deadline s = .next { s with
      rows := { s.rows with
        pendingRow := none
        faultCount :=
          if s.rows.phase = .frame ∧ s.rows.tailOffered = false then min (s.rows.faultCount + 1) 65535
          else s.rows.faultCount
        endRowMissed := s.rows.endRowMissed || decide (x.row + 1 = s.items.rowsRead) }
      port := { s.port with counters := { s.port.counters with
        rowFaults := min (s.port.counters.rowFaults + 1) 4294967295 } } }) ∧
    ((∀ x, s.rows.pendingRow = some x → x.deadline ≠ k) → exec .deadline s = .next s) ∧
    ∀ t, exec .deadline s = .next t →
      exec .rowSlotEnd s = exec .rowSlotEnd t
      ∧ (k = s.items.rowsRead → s.timer.readEndPassed = false →
          exec .readEnd s = exec .readEnd t)
      ∧ (k = s.items.rowsRead → ∀ u, exec .readEnd t = .next u →
          exec .rowSlotEnd t = exec .rowSlotEnd u)

/-- The read end of a frame: the frame's TAIL is offered with the meter's result just finalised, placed in
its reserved entry in an admitted frame and discarded in a skipped one, and the stream is at GAP
(R63, R117, R138, R147). It is due once, at the end of slot H only (log entry 2). -/
def Obligations.ReadEndOffersTheTail : Prop :=
  (∀ s : State, s.timer.phase = .counting s.items.rowsRead → s.timer.readEndPassed = false →
    s.rows.pendingRow = none → s.meter.phase = .collecting →
    ∃ m r, m.latest = some r ∧ exec .readEnd s = .next { s with
      timer := { s.timer with readEndPassed := true }
      meter := m
      rows := { s.rows with tailOffered := true }
      out :=
        match s.out.admission with
        | .admitted => { s.out with
          queue := s.out.queue ++ [.tail ⟨s.timer.current, s.out.delivered, s.out.dropped,
            s.rows.faultCount, r.valid, r.percentileBin, r.bins.getD 13 0, false, false,
            s.rows.irregular⟩]
          position := .gap, admission := .none }
        | .skipped => { s.out with admission := .none }
        | .none => s.out }) ∧
  ∀ s : State, (∀ k, s.timer.phase = .counting k → k = s.items.rowsRead → s.timer.readEndPassed = true) →
    exec .readEnd s = .next s

/-- The result the meter finalises at the read end of a frame it collects: its samples and bins, whether it
is valid, the percentile bin, the error after the clip rule, the desired value, and the meter state and
settle counter after it by the table of R120 (R117, R118, R120 to R122). -/
def Obligations.ReadEndBuildsTheMeterResult : Prop :=
  ∀ (s : State) (frame : FrameNo) (exv : Nat),
    s.timer.phase = .counting s.items.rowsRead → s.timer.readEndPassed = false →
    s.meter.phase = .collecting → s.meter.frame = some (frame, exv) → s.meter.bins.length = 14 →
    s.meter.bins.sum = s.meter.samples → s.items.inRange = true →
    s.items.r0 ≤ s.items.r1 →
    ∃ t r, exec .readEnd s = .next t ∧ t.meter.latest = some r ∧ t.meter.phase = .done
      ∧ t.meter.frame = s.meter.frame ∧ t.meter.bins = s.meter.bins
      ∧ t.meter.samples = s.meter.samples ∧ t.meter.windowRows = s.meter.windowRows
      ∧ r.frame = frame ∧ r.arrayExv = exv ∧ r.samples = s.meter.samples ∧ r.bins = s.meter.bins
      ∧ (r.valid = true ↔ s.items.minSamples ≤ s.meter.samples ∧
          s.meter.windowRows = (List.range (s.items.r1 + 1)).countP fun x =>
            decide (s.items.r0 ≤ x ∧ (x - s.items.r0) % s.items.subsample = 0))
      ∧ percentileFits s.items.percentile s.meter.samples s.meter.bins r.percentileBin
      ∧ (r.valid = false → r.error = none ∧ r.desired = none ∧ r.propose = false
          ∧ t.meter.state = s.meter.state ∧ t.meter.settle = 0)
      ∧ (r.valid = true → ∃ b, r.percentileBin = some b ∧
          ∃ e : Int,
            e = (if s.items.clipLimit * s.meter.samples < s.meter.bins.getD 13 0 * 64
                  ∧ b ≤ s.items.targetBin then -1 else (s.items.targetBin : Int) - b)
            ∧ r.error = some e
            ∧ (r.desired.map fun d => (d : Int)) = some (max 0 (min (exv + 8 * e + s.items.bias) 4095))
            ∧ (t.meter.state, t.meter.settle) =
                (match s.meter.state with
                  | .seeking =>
                    if e.natAbs ≤ s.items.innerBand then
                      if s.meter.settle + 1 < s.items.settleCount then
                        (.seeking, s.meter.settle + 1)
                      else (.settled, 0)
                    else (.seeking, 0)
                  | .settled =>
                    if e.natAbs ≤ s.items.outerBand then (.settled, 0) else (.seeking, 0))
            ∧ (r.propose = true ↔ t.meter.state = .seeking))
      ∧ r.stateAfter = t.meter.state

/-- The wait timer adds one for each complete row time of the wait, up to the mark patience, and does not
count outside the wait (R64, R69; the limit and the ticks that are not due: log entries 2 and 4). -/
def Obligations.WaitTimerCountsRowTimes : Prop :=
  (∀ (s : State) (w : Nat), s.timer.phase = .wait w → w < s.items.markPatience →
    exec .waitTimerTick s = .next { s with timer := { s.timer with phase := .wait (w + 1) } }) ∧
  ∀ s : State, (∀ w, s.timer.phase = .wait w → s.items.markPatience ≤ w) →
    exec .waitTimerTick s = .next s

/-! ### The lines (R3 to R6, R13, R15, R16, R65) -/

/-- Two bit times after a mark a JOINING or SYNCED station counting a frame's slots pulls MARK, its hold clock
at zero and its reference dominant; in any other state, or with MARK already pulled, nothing is asked
(R4, R65). Only then is it due; the round clock shows the event taken (log entries 2, 8 and 10;
`referenceAtJoin`: 32). -/
def Obligations.MarkHoldPullsMark : Prop :=
  (∀ s : State, s.station.state ≠ .off → s.line.roundClock = some 0 →
    exec .markHold s = .next { s with line :=
      if (s.station.state = .joining ∨ s.station.state = .synced) ∧ s.timer.phase.isCounting = true
          ∧ s.line.markDrive = .released then { s.line with
        roundClock := some 2, markDrive := .pulled, holdClock := some 0
        markReference := some .dominant, heldRead := .dominant, referenceAtJoin := none }
      else { s.line with roundClock := some 2 } }) ∧
  ∀ s : State, (s.station.state = .off ∨ s.line.roundClock ≠ some 0) →
    exec .markHold s = .next s

/-- MARK reading dominant makes the reference dominant while the part is active, and does nothing in OFF. A
recessive read is no mark in OFF, while the station pulls MARK, or without a dominant reference, and each
read updates the reference but for one while the station pulls MARK, which is kept for the release
(log entry 8). Left to MarkClosesACompleteRoundFirst is one read in a hold: a rise at the very instant
of the window close whose join began it (R9; the operand: log entry 32). A line that reads recessive in the hold and
stays so after the release gives no rise: the reference is then recessive, and a further recessive read is
no mark (R2, R5, R16). -/
def Obligations.MarkNeedsARise : Prop :=
  (∀ s : State, s.station.state ≠ .off → exec .markFall s = .next { s with line :=
    { s.line with
      markReference := some .dominant, heldRead := .dominant, referenceAtJoin := none } }) ∧
  (∀ (s : State) (b : Bool), s.station.state = .off →
    exec .markFall s = .next s ∧ exec (.mark b) s = .next s) ∧
  (∀ (s : State) (b : Bool), s.station.state ≠ .off → s.line.markDrive = .pulled →
    (b = false ∨ s.line.referenceAtJoin ≠ some .dominant ∨ s.line.holdClock ≠ some 0) →
    exec (.mark b) s = .next { s with line := { s.line with heldRead := .recessive } }) ∧
  (∀ (s : State) (b : Bool), s.station.state ≠ .off → s.line.markDrive = .released →
    s.line.markReference ≠ some .dominant →
    exec (.mark b) s = .next { s with line := { s.line with markReference := some .recessive } }) ∧
  ∀ (s t : State) (b : Bool), s.station.state.drives = true → s.line.markDrive = .pulled →
    s.timer.phase = .counting (s.items.framePeriod - 1) → s.items.rowsRead < s.items.framePeriod →
    exec (.mark false) s = .next t → ∃ u, exec .expiry t = .next u
      ∧ u.line.markReference = some .recessive ∧ exec (.mark b) u = .next u

/-- A check of MARK during the hold: dominant is sound; recessive is a drive fault, counted, noticed once
between marks, and given as a void vote to a round the station drives whose void bit has not begun. The
reference keeps the value dominant and the hold goes on (R16, R39). No check is due while MARK is released. The
model's choices: the check as one command (log entry 23), the hold clock counting the checks (10), and the
level read kept in `heldRead` for the release (8). -/
def Obligations.HeldMarkIsChecked : Prop :=
  ∀ s : State,
    (s.line.markDrive = .released → ∀ l, exec (.markDriveFault l) s = .next s) ∧
    (s.line.markDrive = .pulled → exec (.markDriveFault .dominant) s = .next { s with line :=
      { s.line with holdClock := s.line.holdClock.map (· + 1), heldRead := .dominant } }) ∧
    (s.line.markDrive = .pulled → exec (.markDriveFault .recessive) s = .next (State.afterNotices
      (if s.line.faultNoted = true then [] else [⟨s.timer.current, .lineFault .mark none⟩])
      { s with
        line := { s.line with
          holdClock := s.line.holdClock.map (· + 1), heldRead := .recessive, faultNoted := true }
        round := { s.round with voidVote := s.round.voidVote
          || (s.drivesNow && s.line.roundInProgress
            && decide (s.line.roundClock.getD 0 < 229 ∧ s.round.draft.bits.length ≤ 225)) }
        port := { s.port with counters := { s.port.counters with
          driveFaults := min (s.port.counters.driveFaults + 1) 4294967295 } } }))

/-- At the start of bit i every station is at 4 + i bit times; a driver pulls TALLY exactly where the round's
fields give it a dominant bit: the lead, its own slot's presence and nonce zeros, and, SYNCED at the mark,
the contest fields while its standing is IN, hold and the presences; then the check value and the void
vote. A station that does not drive releases TALLY. The next frame number is taken at bit 161
(R6, R7, R10 to R12, R18, R20 to R22, R26 to R29, R31, R32; the bit counted from the samples: log
entry 11, the round clock: 10, the standing kept from a faulted presence bit: 14). -/
def Obligations.BitStartDrivesTheFields : Prop :=
  ∀ (s : State) (o : Offers) (i : Nat), s.station.state ≠ .off → s.line.roundInProgress = true →
    s.round.window = .marked → s.round.offers = some o → i = s.round.draft.bits.length → i < 226 →
    let starts := i ∈ [0, 1, 161, 177, 178, 191, 204, 217, 225]
    let inField := starts ∨ s.line.standing = .inField
    let slot := s.items.slot
    let next := if i = 161 then s.timer.next else o.nextFrame.getD 0
    let pulls : Prop :=
      i = 0 ∨ i = 1 + 5 * slot
      ∨ (2 + 5 * slot ≤ i ∧ i ≤ 5 + 5 * slot
          ∧ (s.round.roundNonce.getD 0).getLsbD (5 + 5 * slot - i) = false)
      ∨ (161 ≤ i ∧ i ≤ 176 ∧ o.synced = true ∧ inField ∧ next.getLsbD (176 - i) = true)
      ∨ (i = 177 ∧ o.synced = true ∧ o.hold = true)
      ∨ (i = 178 ∧ o.synced = true)
      ∨ (179 ≤ i ∧ i ≤ 190 ∧ o.synced = true ∧ inField ∧ o.standing.testBit (190 - i) = false)
      ∨ ((i = 191 ∨ i = 204) ∧ o.proposal.isSome = true)
      ∨ (192 ≤ i ∧ i ≤ 203 ∧ inField ∧ ∃ d, o.proposal = some d ∧ d.testBit (203 - i) = false)
      ∨ (205 ≤ i ∧ i ≤ 216 ∧ inField ∧ ∃ d, o.proposal = some d ∧ d.testBit (216 - i) = true)
      ∨ (217 ≤ i ∧ i ≤ 224 ∧ s.round.checkRegister.getLsbD (224 - i) = false)
      ∨ (i = 225 ∧ s.round.voidVote = true)
    slot ≤ 31 →
    ∃ drive, (drive = Drive.pulled ↔ s.drivesNow = true ∧ pulls) ∧
      exec .roundBitStart s = .next { s with
        round := { s.round with
          offers := some { o with nextFrame := if i = 161 then some s.timer.next else o.nextFrame } }
        line := { s.line with
          standing := if starts then .inField else s.line.standing
          roundClock := some (4 + i), tallyDrive := drive } }

/-- A sampled bit that is no drive fault and no echo mismatch is kept, and fed to the check register if it is
one of bits 1 to 216. A contender that drove recessive and reads dominant loses the field; at the last
bit of a presence-led field the record learns whether the station held the result; a driver whose check
field reads otherwise than it drove votes void (R8, R10 to R12, R14, R30, R31). A listener only samples:
it neither contends nor votes (R20, R40). -/
def Obligations.SampleFeedsRecordAndCheck : Prop :=
  ∀ (s : State) (o : Offers) (read : Level) (i : Nat), s.station.state ≠ .off →
    s.line.roundInProgress = true → s.round.window = .marked → s.round.offers = some o →
    i = s.round.draft.bits.length → i < 226 → s.items.slot ≤ 31 →
    let drives := s.drivesNow = true
    let pulled := s.line.tallyDrive = .pulled
    ¬ (drives ∧ pulled ∧ read = .recessive) →
    ¬ (drives ∧ 1 + 5 * s.items.slot ≤ i ∧ i ≤ 5 + 5 * s.items.slot ∧ (pulled ↔ read = .recessive)) →
    let contends := drives ∧
      (o.synced = true ∧ (161 ≤ i ∧ i ≤ 176 ∨ 178 ≤ i ∧ i ≤ 190)
        ∨ o.proposal.isSome = true ∧ 191 ≤ i ∧ i ≤ 216)
    let standing :=
      if contends ∧ s.line.standing = .inField ∧ ¬ pulled ∧ read = .dominant then .lost
      else s.line.standing
    let held := decide (contends ∧ standing = .inField)
    let shifted := s.round.checkRegister <<< 1
    exec (.roundBitSample read) s = .next { s with
      line := { s.line with standing := standing }
      round := { s.round with
        draft := { s.round.draft with
          bits := s.round.draft.bits ++ [read]
          heldStanding := if i = 190 then held else s.round.draft.heldStanding
          heldLow := if i = 203 then held else s.round.draft.heldLow
          heldHigh := if i = 216 then held else s.round.draft.heldHigh }
        checkRegister :=
          if 1 ≤ i ∧ i ≤ 216 then
            if (read = .recessive) = (s.round.checkRegister.msb = true) then shifted
            else shifted ^^^ 0x07
          else s.round.checkRegister
        voidVote := s.round.voidVote
          || decide (drives ∧ i = 224
            ∧ checkRead (s.round.draft.bits ++ [read]) ≠ s.round.checkRegister) } }

/-- A bit driven dominant and read recessive, outside the station's own slot, is a drive fault: counted, one
LINE_FAULT between marks, the field's standing FAULTED where the station contends, and a void vote unless
it is the void bit itself, which the station was voting in anyway (R10, R12, R15, R32, R39). The model's
readings: a fault in a presence bit (log entry 14), and TALLY pulled to the end of the faulted bit (35). -/
def Obligations.TallyDriveFaultVotesVoid : Prop :=
  ∀ (s : State) (o : Offers) (i : Nat), s.drivesNow = true →
    s.line.roundInProgress = true → s.round.window = .marked → s.round.offers = some o →
    i = s.round.draft.bits.length → i < 226 → s.items.slot ≤ 31 → s.line.tallyDrive = .pulled →
    ¬ (1 + 5 * s.items.slot ≤ i ∧ i ≤ 5 + 5 * s.items.slot) →
    let contends := o.synced = true ∧ (161 ≤ i ∧ i ≤ 176 ∨ 178 ≤ i ∧ i ≤ 190)
      ∨ o.proposal.isSome = true ∧ 191 ≤ i ∧ i ≤ 216
    let shifted := s.round.checkRegister <<< 1
    exec (.roundBitSample .recessive) s = .next (State.afterNotices
      (if s.line.faultNoted = true then [] else [⟨s.timer.current, .lineFault .tally (some i)⟩])
      { s with
        line := { s.line with
          faultNoted := true
          standing :=
            if s.line.standing = .inField ∧ contends then .faulted else s.line.standing }
        round := { s.round with
          draft := { s.round.draft with
            bits := s.round.draft.bits ++ [.recessive]
            heldStanding := if i = 190 then false else s.round.draft.heldStanding
            heldLow := if i = 203 then false else s.round.draft.heldLow
            heldHigh := if i = 216 then false else s.round.draft.heldHigh }
          checkRegister :=
            if 1 ≤ i ∧ i ≤ 216 then
              if s.round.checkRegister.msb = true then shifted else shifted ^^^ 0x07
            else s.round.checkRegister
          voidVote := s.round.voidVote || decide (i ≤ 224) }
        port := { s.port with counters := { s.port.counters with
          driveFaults := min (s.port.counters.driveFaults + 1) 4294967295 } } })

/-- A bit of the own slot read otherwise than driven bars the station at once: both lines released, the
round withdrawn from with no vote, ID_CONFLICT and STATE_CHANGED, and if it was driven dominant the drive
fault counted and noticed too (R3, R13, R15, R25, R39, R94, R150). The model's choices: the three notices
in any order, LINE_FAULT and ID_CONFLICT of the round engine among them (log entry 5), the reference at
the release (8), and the interface's driving flag left as it stood (12). -/
def Obligations.EchoMismatchBarsTheStation : Prop :=
  ∀ (s : State) (read : Level) (i : Nat), s.drivesNow = true →
    s.line.roundInProgress = true → s.round.window = .marked →
    i = s.round.draft.bits.length → s.items.slot ≤ 31 →
    1 + 5 * s.items.slot ≤ i → i ≤ 5 + 5 * s.items.slot →
    (s.line.tallyDrive = .pulled ↔ read = .recessive) →
    let shifted := s.round.checkRegister <<< 1
    let held := s.line.markDrive = .pulled
    ∃ ns used, interleaving
        [ if read = .recessive ∧ s.line.faultNoted = false
            then [⟨s.timer.current, .lineFault .tally (some i)⟩] else [],
          [⟨s.timer.current, .idConflict s.items.slot i (s.round.roundNonce.getD 0)⟩],
          [⟨s.timer.current, .stateChanged s.station.state .barred .idConflict⟩] ] ns
      ∧ exec (.roundBitSample read) s = .next (State.afterNotices ns { s with
          line := { s.line with
            withdrawn := true
            faultNoted := s.line.faultNoted || decide (read = .recessive)
            tallyDrive := .released, markDrive := .released
            holdClock := if held then none else s.line.holdClock
            markReference := if held then some s.line.heldRead else s.line.markReference }
          station := { s.station with state := .barred, joinCount := 0, voidCount := 0 }
          round := { s.round with
            drove := false, voidVote := false
            draft := { s.round.draft with bits := s.round.draft.bits ++ [read] }
            checkRegister :=
              if (read = .recessive) = (s.round.checkRegister.msb = true) then shifted
              else shifted ^^^ 0x07 }
          port := { s.port with counters := { s.port.counters with
            driveFaults :=
              if read = .recessive then min (s.port.counters.driveFaults + 1) 4294967295
              else s.port.counters.driveFaults } }
          freeCount := used })

/-- The end of bit 225: the round is no longer in progress and TALLY is released (R6); it is due once all 226
bits have been sampled. WINDOW_CLOSE is due once the open round's bits have been sampled,
LOCAL_WINDOW_CLOSE while a local window is open, PATIENCE_EXPIRY once the wait has reached the mark
patience with no window open; otherwise they do nothing (R35, R37, R69; log entries 2, 4, 10 and 11). -/
def Obligations.RoundWindowAndPatienceEvents : Prop :=
  ((∀ s : State, s.station.state ≠ .off → s.line.roundInProgress = true → s.round.window = .marked →
    s.round.draft.bits.length = 226 → exec .roundEnd s = .next { s with line :=
      { s.line with roundInProgress := false, tallyDrive := .released, roundClock := some 230 } }) ∧
  ∀ s : State, (s.station.state = .off ∨ s.line.roundInProgress = false ∨ s.round.window ≠ .marked
      ∨ s.round.draft.bits.length ≠ 226) → exec .roundEnd s = .next s) ∧
  (∀ s : State,
    ((s.station.state = .off ∨ s.round.window ≠ .marked ∨ s.round.draft.bits.length ≠ 226) →
      exec .windowClose s = .next s) ∧
    ((s.station.state = .off ∨ s.round.window ≠ .local) → exec .localWindowClose s = .next s)) ∧
  (∀ (s : State) (m : Level),
    (s.round.window ≠ .closed ∨ ∀ w, s.timer.phase = .wait w → w + 1 < s.items.markPatience) →
    exec (.patienceExpiry m) s = .next s)

/-! ### The close of a window (R33 to R40, R44 to R50, R76, R84 to R92) -/

/-- A driver of a complete round with a dominant void bit, or that voted void, takes VOID: the roster, the
frame numbers and S stand, a VOID entry at S is appended, the round is counted, and at the void limit the
station falls to LISTEN, releasing both lines, with VOID_LIMIT then STATE_CHANGED
(R3, R33, R38, R48, R91, R92; the reference at MARK's release: log entry 8, the clocks: 10). -/
def Obligations.VoidCloseTakesNothing : Prop :=
  ∀ s : State, (s.station.state = .joining ∨ s.station.state = .synced) →
    s.items.inRange = true → s.items.startCheck = .none →
    s.round.window = .marked → s.round.draft.bits.length = 226 → s.round.drove = true →
    s.round.draft.drove = true → s.line.withdrawn = false →
    (bitAt s.round.draft.bits 225 = .dominant ∨ s.round.voidVote = true) →
    let falls := s.items.voidLimit ≤ s.station.voidCount + 1
    ∃ e, e.made s.items (s.timer.current + 2) s.timer.current .void s.agree.standing none ∧
      exec .windowClose s = .next (State.afterNotices
        (if falls then
          [⟨s.timer.current, .voidLimit s.items.voidLimit s.station.state⟩,
           ⟨s.timer.current, .stateChanged s.station.state .listen .voidLimit⟩]
        else [])
        { s with
          line :=
            if falls then { s.line with
              roundInProgress := false, tallyDrive := .released, roundClock := some 240
              markDrive := .released
              holdClock := if s.line.markDrive = .pulled then none else s.line.holdClock
              markReference :=
                if s.line.markDrive = .pulled then some s.line.heldRead else s.line.markReference }
            else { s.line with
              roundInProgress := false, tallyDrive := .released, roundClock := some 240 }
          round := { s.round with window := .closed, drove := false, localClock := none }
          station :=
            if falls then { s.station with
              state := .listen, joinCount := 0, voidCount := 0, listenCount := 0 }
            else { s.station with voidCount := s.station.voidCount + 1 }
          schedule := s.schedule ++ [e]
          port := { s.port with counters := { s.port.counters with
            voidRounds := min (s.port.counters.voidRounds + 1) 4294967295 } } })

/-- A driver of a complete round that nobody voided takes CLEAN: it adopts the standing value read, sets the
quorum flag, appends the entry of the first matching case of R48, takes the next frame number read,
updates the roster, counts the round, and a JOINING station becomes SYNCED; the notices of the four blocks
enter the list in any order (R26, R33, R44, R46 to R48, R50, R76, R88, R91, R150). The roster's part is
that of RosterFollowsTheTables; the clocks are log entry 10. -/
def Obligations.CleanCloseTakesTheRound : Prop :=
  ∀ (s : State) (r : RoundRecord), (s.station.state = .joining ∨ s.station.state = .synced) →
    s.items.inRange = true → s.items.startCheck = .none →
    s.round.window = .marked → s.round.draft.bits.length = 226 → s.round.drove = true →
    s.round.draft.drove = true → s.line.withdrawn = false →
    bitAt s.round.draft.bits 225 = .recessive → s.round.voidVote = false →
    r.outcome = some .clean → r.frame = s.timer.current → r.roll = some (rollOf s.round.draft.bits) →
    let it := s.items
    let bits := s.round.draft.bits
    let read := bitAt bits 178 = .dominant
    let S := if read then valueRead bits 179 12 else s.agree.standing
    let next := if read then BitVec.ofNat 16 (maxValueRead bits 161 16) else s.timer.next
    let roll := rollOf bits
    let met := it.quorum ≤ roll.length
    let low := if bitAt bits 191 = .dominant then some (valueRead bits 192 12) else none
    let high := if bitAt bits 204 = .dominant then some (maxValueRead bits 205 12) else none
    let basis := (s.round.offers.map fun o => (o.hold, o.basis)).getD (false, ⟨false, none⟩)
    let choice : Source × Nat :=
      if ¬ met then (.local, ownValue it S basis.1 basis.2)
      else if bitAt bits 177 = .dominant then (.held, S)
      else match low, high with
        | none, none => (.kept, S)
        | some l, none => (.agreed, movedToward it.stepLimit S l)
        | none, some h => (.agreed, movedToward it.stepLimit S h)
        | some l, some h => (.agreed, movedToward it.stepLimit S (match it.policy with
          | .highlight => l | .shadow => h | .span => (l + h) / 2))
    ∃ e ns used, e.made it (s.timer.current + 2) s.timer.current choice.1 choice.2
        (if choice.1 = .local then none else some (roll.map (·.1)))
      ∧ interleaving
        [ if s.station.state = .joining
            then [⟨s.timer.current, .stateChanged .joining .synced .synced⟩] else [],
          (rosterClose it r s.roster).2,
          if next = s.timer.next then [] else [⟨s.timer.current, .frameRenumbered s.timer.next next⟩],
          (if S = s.agree.standing then []
            else [⟨s.timer.current, .standingAdopted s.agree.standing S⟩])
          ++ (if s.agree.quorumFlag = .met ∧ ¬ met
              then [⟨s.timer.current, .quorumLost roll.length it.quorum⟩] else [])
          ++ (if s.agree.quorumFlag = .notMet ∧ met
              then [⟨s.timer.current, .quorumRegained roll.length it.quorum⟩] else []) ] ns
      ∧ exec .windowClose s = .next (State.afterNotices ns { s with
          line := { s.line with
            roundInProgress := false, tallyDrive := .released, roundClock := some 240 }
          round := { s.round with window := .closed, drove := false, localClock := none }
          station := { s.station with
            state := .synced, voidCount := 0
            joinCount := if s.station.state = .joining then 0 else s.station.joinCount }
          timer := { s.timer with next := next }
          roster := (rosterClose it r s.roster).1
          agree := { s.agree with
            standing := if choice.1 = .agreed ∨ choice.1 = .local then choice.2 else S
            quorumFlag := if met then .met else .notMet }
          schedule := s.schedule ++ [e]
          port := { s.port with counters := { s.port.counters with
            cleanRounds := min (s.port.counters.cleanRounds + 1) 4294967295 } }
          freeCount := used })

/-- A listener that reads the lead dominant, its own check value in the check field and no void takes HEARD:
a LISTEN station counts it toward joining, adopts the standing value and appends a LOCAL entry; at the
join count it joins, holding MARK at once while it counts a frame, or finds its slot busy. A BARRED
station adopts and counts nothing, but keeps the numbering and the roster
(R34, R45, R48, R66, R76, R84 to R86, R95; the reference and `heldRead` at the hold: log entry 8,
`referenceAtJoin`: 32, the clocks: 10, the order of the notices: 5). -/
def Obligations.HeardCloseFollowsTheArray : Prop :=
  ∀ (s : State) (r : RoundRecord), (s.station.state = .listen ∨ s.station.state = .barred) →
    s.items.inRange = true → s.items.startCheck = .none →
    s.round.window = .marked → s.round.draft.bits.length = 226 → s.round.drove = false →
    s.round.draft.drove = false → s.line.withdrawn = false → s.line.markDrive = .released →
    bitAt s.round.draft.bits 0 = .dominant → checkRead s.round.draft.bits = s.round.checkRegister →
    bitAt s.round.draft.bits 225 = .recessive →
    r.outcome = some .heard → r.frame = s.timer.current → r.roll = some (rollOf s.round.draft.bits) →
    let it := s.items
    let bits := s.round.draft.bits
    let read := bitAt bits 178 = .dominant
    let listens := s.station.state = .listen
    let S := if read ∧ listens then valueRead bits 179 12 else s.agree.standing
    let next := if read then BitVec.ofNat 16 (maxValueRead bits 161 16) else s.timer.next
    let basis := (s.round.offers.map fun o => (o.hold, o.basis)).getD (false, ⟨false, none⟩)
    let own := (rollOf bits).lookup it.slot
    let count := min (s.station.joinCount + 1) it.joinCount
    let joins := listens ∧ count = it.joinCount ∧ own = none
    let busy := listens ∧ count = it.joinCount ∧ own ≠ none
    let line := { s.line with
      roundInProgress := false, tallyDrive := .released, roundClock := some 240 }
    ∃ e ns used, e.made it (s.timer.current + 2) s.timer.current .local
        (ownValue it S basis.1 basis.2) none
      ∧ interleaving
        [ if joins then [⟨s.timer.current, .stateChanged .listen .joining .joined⟩]
          else if busy ∧ s.station.slotBusy = false
            then [⟨s.timer.current, .slotBusy it.slot (own.getD 0) count⟩] else [],
          (rosterClose it r s.roster).2,
          if next = s.timer.next then [] else [⟨s.timer.current, .frameRenumbered s.timer.next next⟩],
          if S = s.agree.standing then []
            else [⟨s.timer.current, .standingAdopted s.agree.standing S⟩] ] ns
      ∧ exec .windowClose s = .next (State.afterNotices ns { s with
          line :=
            if joins ∧ s.timer.phase.isCounting = true then { line with
              markDrive := .pulled, holdClock := some 0, markReference := some .dominant
              heldRead := .dominant, referenceAtJoin := s.line.markReference }
            else line
          round := { s.round with window := .closed, drove := false, localClock := none }
          station :=
            if joins then { s.station with
              state := .joining, joinCount := 0, voidCount := 0, slotBusy := false }
            else if listens then { s.station with
              joinCount := count
              slotBusy := if own = none then false else s.station.slotBusy || decide busy }
            else s.station
          timer := { s.timer with next := next }
          roster := (rosterClose it r s.roster).1
          agree := { s.agree with standing := ownValue it S basis.1 basis.2 }
          schedule := s.schedule ++ [e]
          freeCount := used })

/-- A round the station did not hear, and a round it withdrew from, changes neither the roster, the numbering
nor the quorum flag, creates no notice and counts in no counter: it appends a LOCAL entry, which S follows,
and an UNHEARD one sets a LISTEN station's join count to 0. A local window closes in the same way
(R25, R34, R35, R46, R48, R49, R84, R98; the clocks: log entry 10). -/
def Obligations.UnsoundCloseMakesALocalEntry : Prop :=
  ∀ s : State, s.station.state ≠ .off → s.items.inRange = true → s.items.startCheck = .none →
    let it := s.items
    let basis := (s.round.offers.map fun o => (o.hold, o.basis)).getD (false, ⟨false, none⟩)
    let value := ownValue it s.agree.standing basis.1 basis.2
    ∃ e, e.made it (s.timer.current + 2) s.timer.current .local value none ∧
      let closed : State := { s with
        round := { s.round with window := .closed, drove := false, localClock := none }
        agree := { s.agree with standing := value }
        schedule := s.schedule ++ [e] }
      let line := { s.line with
        roundInProgress := false, tallyDrive := .released, roundClock := some 240 }
      let unheard :=
        if s.station.state = .listen then { s.station with joinCount := 0 } else s.station
      (s.round.window = .marked → s.round.draft.bits.length = 226 → s.round.drove = false →
        s.round.draft.drove = false → s.line.withdrawn = false →
        (bitAt s.round.draft.bits 0 = .recessive
          ∨ checkRead s.round.draft.bits ≠ s.round.checkRegister
          ∨ bitAt s.round.draft.bits 225 = .dominant) →
        exec .windowClose s = .next { closed with line := line, station := unheard }) ∧
      (s.round.window = .marked → s.round.draft.bits.length = 226 → s.line.withdrawn = true →
        exec .windowClose s = .next { closed with line := line }) ∧
      (s.round.window = .local →
        exec .localWindowClose s = .next { closed with station := unheard })

/-! ### Marks (R5, R7, R9, R36, R57 to R59, R67 to R71, R75, R127, R133, R144) -/

/-- A mark in the wait opens a MARKED frame with the lag counted, and its round: the station drives it if it
is JOINING or SYNCED, on a nonce of its sequence and the offers of this moment; the schedule retires the
ended frame's entry and follows any renumbering, the plans, the GAIN, the meter and the HEAD follow from
its first two entries, and the listen count and LINE_LOW flag are cleared
(R2, R5, R7, R19, R21, R24, R57, R59, R67, R68, R75; the closed forms: Safety; `endRowMissed`: log
entry 17). -/
def Obligations.MarkEndsTheWait : Prop :=
  ∀ (s : State) (w : Nat) (b : Bool), s.sound = true → s.scheduleRight = true →
    s.line.markDrive = .released → s.line.markReference = some .dominant → s.timer.phase = .wait w → s.round.window = .closed →
    ∃ first second, s.entriesNext [] = [first, second] ∧ first.target = s.timer.next ∧
      exec (.mark b) s = .next { s.opensFrame .marked (min w 255) first second [] with
        line := s.line.opensRound s.station.state.drives
        station := { s.station with listenCount := 0, lineLow := false }
        round := s.round.opensRound s.station.state.drives (s.offersOn s.meter.basis) }

/-- A mark while slots are counted cuts: a frame before its read end has an invalid meter result and, if
admitted, its TAIL with CUT; the pending row becomes the discard row; the new frame opens at once as a CUT
frame with lag 0, flagged IRREGULAR, and after its GAIN come the resets of its rows whose slots had not
ended. The round is opened as at any mark, on the meter basis before or after the cut. A cut lead-in has
no TAIL, and frame 0 opens on the two primed entries (R21, R58, R70, R74, R119, R123, R127, R133, R138,
R147). This is the cut of a frame whose window is closed; CutAppendsTheMissingEntry is that of one whose
window is open and incomplete, MarkClosesACompleteRoundFirst leads to this one. The model's choices: the
order of the two blocks is free (log entry 6), the discard row with none pending (26), the round clock
(10) and `endRowMissed` (17). -/
def Obligations.MarkCutsFrameOrLeadIn : Prop :=
  (∀ (s : State) (k e : Nat) (b : Bool), s.sound = true → s.scheduleRight = true → s.countsInRange = true →
    s.line.markDrive = .released → s.line.markReference = some .dominant →
    s.timer.phase = .counting k → s.round.window = .closed → s.rows.nextTime = some e →
    e < s.items.framePeriod →
    ∃ first second r basis used, s.entriesNext [] = [first, second]
      ∧ first.target = s.timer.next ∧ s.meter.invalidResult s.items r
      ∧ (basis = s.meter.basis ∨ s.timer.readEndPassed = false ∧ basis = ⟨false, none⟩)
      ∧ exec (.mark b) s
        = .next { (s.endsCut r).opensFrame .cut 0 first second (s.rowsCaughtUp k e) with
          line := s.line.opensRound s.station.state.drives
          station := { s.station with listenCount := 0, lineLow := false }
          round := s.round.opensRound s.station.state.drives (s.offersOn basis)
          freeCount := used }) ∧
  (∀ (s : State) (k e : Nat) (b : Bool), s.sound = true → s.scheduleRight = true →
    s.line.markDrive = .released → s.line.markReference = some .dominant →
    s.timer.phase = .leadIn k → s.rows.nextTime = some e → e < s.items.framePeriod →
    s.rows.pendingRow = none →
    ∃ first second, s.schedule = [first, second] ∧ first.target = 0
      ∧ exec (.mark b) s = .next { s.opensFrame .cut 0 first second (s.rowsCaughtUp k e) with
        line := s.line.opensRound false
        station := { s.station with listenCount := 0, lineLow := false }
        round := s.round.opensRound false (s.offersOn s.meter.basis) })

/-- A mark that finds the open window incomplete closes it without an entry, a count or a notice, and a
LISTEN station's join count becomes 0; the frame is cut as any other. The entry of the ended frame's
number plus 2 is appended at the cut, LOCAL, from the hold request and the meter's latest result as they
then stand, and S follows it. The CUT frame and the round of the mark open, the round on S and the meter
basis as they stood before the cut or as they stand after it (R9, R21, R36, R46, R49, R58, R70, R84, R91,
R123, R127, R133, R138, R147). The model's choices: the order of the two blocks is free (log entry 6), the
discard row with none pending (26), the round clock (10) and `endRowMissed` (17). -/
def Obligations.CutAppendsTheMissingEntry : Prop :=
  ∀ (s : State) (k e : Nat) (b : Bool), s.sound = true → s.scheduleRight = true → s.countsInRange = true →
    s.line.markDrive = .released → s.line.markReference = some .dominant →
    s.timer.phase = .counting k →
    (s.round.window = .local ∨ s.round.window = .marked ∧ s.round.draft.bits.length ≠ 226) →
    s.rows.nextTime = some e → e < s.items.framePeriod →
    let basis := if s.timer.readEndPassed = true then s.meter.basis else ⟨false, none⟩
    let value := ownValue s.items s.agree.standing s.agree.holdRequest basis
    let agree : AgreementUnit := { s.agree with standing := value }
    ∃ entry first second r offers used,
      entry.made s.items (s.timer.current + 2) s.timer.current .local value none
      ∧ s.entriesNext [entry] = [first, second] ∧ first.target = s.timer.next
      ∧ s.meter.invalidResult s.items r
      ∧ (offers = s.offersOn s.meter.basis ∨ offers = State.offersOn basis { s with agree := agree })
      ∧ exec (.mark b) s
        = .next { (s.endsCut r).opensFrame .cut 0 first second (s.rowsCaughtUp k e) with
          agree := agree
          line := s.line.opensRound s.station.state.drives
          station := { s.station with
            joinCount := if s.station.state = .listen then 0 else s.station.joinCount
            listenCount := 0, lineLow := false }
          round := s.round.opensRound s.station.state.drives offers
          freeCount := used }

/-- A mark and a window close that meet. A mark after bit 225 has been sampled but before the window has
closed: the window closes at the mark as at any window close, and then the mark is taken; a station that
joins at that close holds nothing in the ended frame, and drives the new round. A close taken first, with
the mark at the same instant: the mark opens the same round and frame. A hold that a join at the close
began is dropped at that mark, so that in both orders the station pulls nothing in the first two bit times
of the new frame (R9, R36, R65, R66, R71). The model's choices: `heldRead` (log entry 8), and
`referenceAtJoin`, the operand and the dropped hold (32). -/
def Obligations.MarkClosesACompleteRoundFirst : Prop :=
  ∀ (s u : State) (b : Bool), s.station.state ≠ .off → s.line.markDrive = .released →
    s.line.markReference = some .dominant → s.round.window = .marked →
    s.round.draft.bits.length = 226 → exec .windowClose s = .next u →
    exec (.mark b) s = exec (.mark false) { u with line := { u.line with
      markDrive := .released, holdClock := s.line.holdClock
      markReference := some .dominant, heldRead := s.line.heldRead
      referenceAtJoin := s.line.referenceAtJoin } }
    ∧ ∃ t, exec (.mark b) s = .next t ∧ t.line.markDrive = .released
      ∧ exec (.mark true) u = .next (if u.line.markDrive = .released then t else { t with line :=
        { t.line with holdClock := none, heldRead := .dominant, referenceAtJoin := none } })

/-! ### Patience (R35, R69, R72, R73, R89, R93) -/

/-- A wait that reaches the mark patience in JOINING or SYNCED: a LOCAL frame opens with its local window,
its HEAD carrying the state the station held, and the station stalls: it falls to LISTEN with
its counts 0, the stall is counted, and MARK_STALL and STATE_CHANGED are created, in either order
(R35, R69, R93; when the command is due: log entry 4, the window's clock: 10, `endRowMissed`: 17). -/
def Obligations.PatienceExpiryStallsADriver : Prop :=
  ∀ (s : State) (w : Nat) (m : Level), s.sound = true → s.scheduleRight = true →
    s.linesAllowed = true →
    (s.station.state = .joining ∨ s.station.state = .synced) → s.timer.phase = .wait w →
    s.items.markPatience ≤ w + 1 → s.round.window = .closed →
    ∃ first second ns used, s.entriesNext [] = [first, second]
      ∧ interleaving
        [ [⟨s.timer.next, .markStall s.items.markPatience s.station.state⟩],
          [⟨s.timer.next, .stateChanged s.station.state .listen .markStall⟩] ] ns
      ∧ let opened : State := s.opensFrame .local (min s.items.markPatience 255) first second []
        exec (.patienceExpiry m) s = .next (State.afterNotices ns { opened with
          line := { s.line with tallyDrive := .released }
          station := { s.station with
            state := .listen, joinCount := 0, voidCount := 0, listenCount := 0 }
          round := s.localWindow
          port := { opened.port with counters := { opened.port.counters with
            markStalls := min (s.port.counters.markStalls + 1) 4294967295 } }
          freeCount := used })

/-- A wait that reaches the mark patience in LISTEN opens a LOCAL frame and counts it; at the listen timeout
the station reads MARK. Recessive without a rise, it founds: SYNCED, MARK held at once through the local
frame. Dominant, it starts over, with LINE_LOW once. A rise is a mark and no founding. A BARRED station
only opens the frame (R35, R69, R72, R73, R84, R89, R95). The model's choices: when the command is due
(log entry 4), a rise taken as a mark within it (9), the listen count standing after founding (30),
`heldRead` (8), the clocks (10) and `endRowMissed` (17). -/
def Obligations.PatienceExpiryCountsTowardFounding : Prop :=
  ∀ (s : State) (w : Nat), s.sound = true → s.scheduleRight = true → s.timer.phase = .wait w →
    s.line.markDrive = .released →
    s.items.markPatience ≤ w + 1 → s.round.window = .closed →
    ∃ first second, s.entriesNext [] = [first, second] ∧
      let opened : State := { s.opensFrame .local (min s.items.markPatience 255) first second [] with
        round := s.localWindow }
      let counted : State := { opened with station :=
        { s.station with joinCount := 0, listenCount := s.station.listenCount + 1 } }
      (s.station.state = .barred → ∀ m, exec (.patienceExpiry m) s = .next opened) ∧
      (s.station.state = .listen → s.station.listenCount + 1 ≠ s.items.listenTimeout →
        ∀ m, exec (.patienceExpiry m) s = .next counted) ∧
      (s.station.state = .listen → s.station.listenCount + 1 = s.items.listenTimeout →
        exec (.patienceExpiry .dominant) s = .next (State.afterNotices
          (if s.station.lineLow = true then [] else [⟨s.timer.next, .lineLow⟩])
          { counted with
            station := { s.station with joinCount := 0, listenCount := 0, lineLow := true }
            line := { s.line with markReference := some .dominant } }) ∧
        (s.line.markReference ≠ some .dominant →
          exec (.patienceExpiry .recessive) s = .next (State.afterNotices
            [⟨s.timer.next, .stateChanged .listen .synced .founded⟩]
            { counted with
              station := { counted.station with state := .synced, joinCount := 0, voidCount := 0 }
              line := { s.line with
                markDrive := .pulled, holdClock := some 0, markReference := some .dominant
                heldRead := .dominant, referenceAtJoin := none } })) ∧
        (s.line.markReference = some .dominant →
          exec (.patienceExpiry .recessive) s = exec (.mark false) counted))

/-! ### The sensor port and row deliveries (R115, R126, R134 to R138, R146, R170) -/

/-- The oldest queued command leaves the queue as its 16-bit word, the kind in bits 15 and 14 and the row or
the gain code below, sent most significant bit first with the strobe high in the first bit only; with
none queued nothing is sent (R126, R170; the word kept as last begun: log entry 22). -/
def Obligations.SensorPortSendsOldestCommand : Prop :=
  (∀ (s : State) (c : SensorCommand) (rest : List SensorCommand), s.rows.queue = c :: rest →
    ∃ word, exec .sensorCommandSend s
        = .next { s with rows := { s.rows with queue := rest, sending := some word } }
      ∧ (∀ row, c = .reset row → row < 2048 → word.toNat = row)
      ∧ (∀ row, c = .read row → row < 2048 → word.toNat = 16384 + row)
      ∧ (∀ code, c = .gain code → code < 256 → word.toNat = 32768 + code)
      ∧ (sensorWaveform word).length = 16
      ∧ ∀ i, i < 16 → (sensorWaveform word)[i]? = some (word.getLsbD (15 - i), decide (i = 0))) ∧
  ∀ s : State, s.rows.queue = [] → exec .sensorCommandSend s = .next s

/-- SD_ROW rising opens a delivery, closing one still open as its fall would; each word taken belongs to it:
two tag words, then pixels, the first W kept and all counted. In IDLE, and words with no delivery open,
are ignored (R134, R135, R139); the fall of a delivery whose rise came in OFF completes none, by the
model's choice (R137; log entry 33). -/
def Obligations.DeliveriesCollectTagAndPixels : Prop :=
  (∀ (s : State) (b : Bool), s.rows.phase ≠ .idle → ∃ u, exec (.delivery b) s = .next u
    ∧ exec (.deliveryOpen b) s
      = .next { u with rows := { u.rows with delivery := some ⟨[], 0, []⟩ } }) ∧
  (∀ (s : State) (word : Pixel) (d : Delivery), s.rows.phase ≠ .idle →
    s.rows.delivery = some d →
    let grown : Delivery :=
      if d.tag.length < 2 then { d with tag := d.tag ++ [word] }
      else { d with
        count := d.count + 1
        pixels := if d.count < s.items.rowWidth then d.pixels ++ [word] else d.pixels }
    exec (.deliveryWord word) s
      = .next { s with rows := { s.rows with delivery := some grown } }) ∧
  ∀ (s : State) (word : Pixel) (b : Bool),
    (s.rows.phase = .idle → exec (.delivery b) s = .next s ∧ exec (.deliveryOpen b) s = .next s) ∧
    (s.rows.delivery = none → exec (.delivery b) s = .next s) ∧
    ((s.rows.phase = .idle ∨ s.rows.delivery = none) → exec (.deliveryWord word) s = .next s)

/-- A completed delivery by the table of R135: with the pending row's tag and W pixels it is accepted; with
any other tag or count the pending row is a row fault; the discard row is dropped without a fault; what
comes at the read end's instant for the row just counted missing is not counted again; anything else is
a stray, a row fault counted in the frame only before its TAIL (R133, R135 to R138). The model's choices:
the read end's instant as an operand (log entry 17), and that a delivery taken after the READ of the slot
end it completes at is checked against the row of that READ (34). -/
def Obligations.DeliveryIsCheckedAgainstThePendingRow : Prop :=
  ∀ (s : State) (d : Delivery) (atReadEnd : Bool), s.rows.phase ≠ .idle → s.rows.delivery = some d →
    let tagged (row : Nat) : Prop := ∃ hi lo rest, d.tag = hi :: lo :: rest
      ∧ row = 1024 * hi.toNat + lo.toNat
    let counts := s.rows.phase = .frame ∧ s.rows.tailOffered = false
    let faulted : State := { s with
      rows := { s.rows with
        pendingRow := none, delivery := none
        faultCount := if counts then min (s.rows.faultCount + 1) 65535 else s.rows.faultCount }
      port := { s.port with counters := { s.port.counters with
        rowFaults := min (s.port.counters.rowFaults + 1) 4294967295 } } }
    let taken : State := { s with rows := { s.rows with pendingRow := none, delivery := none } }
    (∀ p, s.rows.pendingRow = some p → tagged p.row → d.count = s.items.rowWidth →
      exec (.delivery atReadEnd) s = .next (taken.acceptRow p.row d.pixels)) ∧
    (∀ p, s.rows.pendingRow = some p → (¬ tagged p.row ∨ d.count ≠ s.items.rowWidth) →
      exec (.delivery atReadEnd) s = .next faulted) ∧
    (s.rows.pendingRow = none →
      (∀ row, s.rows.discardRow = some row → tagged row → exec (.delivery atReadEnd) s
        = .next { taken with rows := { taken.rows with discardRow := none } }) ∧
      ((∀ row, s.rows.discardRow = some row → ¬ tagged row) →
        (atReadEnd = true → s.rows.endRowMissed = true → exec (.delivery atReadEnd) s
          = .next { taken with rows := { taken.rows with endRowMissed := false } }) ∧
        ((atReadEnd = false ∨ s.rows.endRowMissed = false) →
          exec (.delivery atReadEnd) s = .next faulted)))

/-- An accepted row of W pixels: a collecting meter takes a window row, each pixel at a window column adding
one to N and to the bin of its value; before the TAIL the row is offered: in an admitted frame it is
queued if a row entry and W pixels are free and dropped and counted if not; in a skipped frame it is
discarded (R112, R115, R138, R143, R145, R146). -/
def Obligations.AcceptedRowIsMeteredAndOffered : Prop :=
  ∀ (s : State) (row : Nat) (pixels : List Pixel), s.meter.bins.length = 14 →
    let it := s.items
    let bounds := [0, 16, 23, 32, 45, 64, 91, 128, 181, 256, 362, 512, 724, 1020, 1024]
    let inWindow (first last x : Nat) : Prop :=
      first ≤ x ∧ x ≤ last ∧ (x - first) % it.subsample = 0
    let sampled := (List.range pixels.length).filter fun j => decide (inWindow it.c0 it.c1 j)
    let looks := s.meter.phase = .collecting ∧ inWindow it.r0 it.r1 row
    let fits := s.out.rowsHeld + 1 ≤ 16 ∧ s.out.pixelsHeld + pixels.length ≤ 16384
    let offered := s.rows.tailOffered = false ∧ s.out.admission = .admitted
    ∃ bins, bins.length = 14 ∧
      (∀ b, b < 14 → bins[b]? = (s.meter.bins[b]?).map (· + sampled.countP fun j =>
        decide (bounds.getD b 0 ≤ ((pixels[j]?).getD 0).toNat
          ∧ ((pixels[j]?).getD 0).toNat < bounds.getD (b + 1) 0))) ∧
      s.acceptRow row pixels = { s with
        meter :=
          if looks then { s.meter with
            windowRows := s.meter.windowRows + 1, samples := s.meter.samples + sampled.length
            bins := bins }
          else s.meter
        out :=
          if offered ∧ fits then { s.out with
            queue := s.out.queue ++ [.row ⟨s.timer.current, row, pixels⟩]
            rowsHeld := s.out.rowsHeld + 1, pixelsHeld := s.out.pixelsHeld + pixels.length
            delivered := s.out.delivered + 1 }
          else if offered then { s.out with dropped := s.out.dropped + 1 }
          else s.out
        port :=
          if offered ∧ ¬ fits then { s.port with counters := { s.port.counters with
            rowsDropped := min (s.port.counters.rowsDropped + 1) 4294967295 } }
          else s.port }

/-! ### The output port and the notice list (R149 to R153, R166, R167) -/

/-- While the queue holds a record O_VALID is high, OD carries the word not yet accepted and O_FIRST marks a
record's first word. Accepting a word moves to the next; accepting the last gives back what the record
took: a control entry for a HEAD, TAIL or NOTICE, a row entry and its pixels for a ROW (R143, R149). -/
def Obligations.ConsumerAcceptsWordByWord : Prop :=
  (∀ (s : State) (r : StreamRecord) (rest : List StreamRecord), s.out.queue = r :: rest →
    s.out.oValid = true ∧ s.out.od = r.words[s.out.accepted]?
    ∧ (s.out.oFirst = true ↔ s.out.accepted = 0)
    ∧ (s.out.accepted + 1 < r.words.length → exec .outputWordAccept s
        = .next { s with out := { s.out with accepted := s.out.accepted + 1 } })
    ∧ (r.words.length ≤ s.out.accepted + 1 → exec .outputWordAccept s = .next { s with out :=
        match r with
        | .row x => { s.out with
          queue := rest, accepted := 0, rowsHeld := s.out.rowsHeld - 1
          pixelsHeld := s.out.pixelsHeld - x.pixels.length }
        | .head _ | .tail _ | .notice _ _ => { s.out with
          queue := rest, accepted := 0, controlHeld := s.out.controlHeld - 1 } })) ∧
  ∀ s : State, s.out.queue = [] → s.out.oValid = false ∧ exec .outputWordAccept s = .next s

/-- The oldest notice moves into the queue when the stream is at GAP and 3 control entries are free: it takes
the lost count, which becomes 0, and one entry. Otherwise nothing moves (R152; that it moves when
this command comes: log entry 31). -/
def Obligations.OldestNoticeMovesInAGap : Prop :=
  ∀ s : State,
    (∀ n rest, s.out.notices = n :: rest → s.out.position = .gap → s.out.controlHeld + 3 ≤ 8 →
      exec .noticeMove s = .next { s with out := { s.out with
        notices := rest, queue := s.out.queue ++ [.notice n s.out.lost], lost := 0
        controlHeld := s.out.controlHeld + 1 } }) ∧
    ((s.out.notices = [] ∨ s.out.position = .opened ∨ 8 < s.out.controlHeld + 3) →
      exec .noticeMove s = .next s)

/-- The words of a HEAD, ROW, TAIL and NOTICE hold their fields where R166 places them, absent fields as 0 with a
clear presence bit; a NOTICE carries for each kind the slot and the two details that R153 gives it
(R153, R166, R167). -/
def Obligations.StreamWordsHoldTheirFields : Prop :=
  ((∀ h : HeadRecord, h.entry.arrayExv ≤ 4095 → h.entry.localExv ≤ 4095 → h.entry.step ≤ 63 →
    h.entry.time ≤ 4095 → h.entry.gain ≤ 255 → h.lag ≤ 255 → h.skipped ≤ 255 →
    (∀ slot ∈ h.entry.agreeing.getD [], slot ≤ 31) →
    ∃ set : Word, h.words.map (·.toNat) =
      [ 2 ^ 28
          + (match h.entry.source with
              | .agreed => 0 | .kept => 1 | .held => 2 | .void => 3 | .local => 4) * 2 ^ 25
          + h.quorumMet.toNat * 2 ^ 24
          + (match h.station with
              | .off => 0 | .listen => 1 | .joining => 2 | .synced => 3 | .barred => 4) * 2 ^ 21
          + h.entry.agreeing.isSome.toNat * 2 ^ 20 + h.frame.toNat,
        h.entry.arrayExv * 2 ^ 16 + h.entry.localExv,
        h.entry.step * 2 ^ 26 + h.entry.gain * 2 ^ 16 + h.entry.time,
        set.toNat,
        h.entry.deciding.toNat * 2 ^ 16 + h.lag * 2 ^ 8 + h.skipped ]
      ∧ ∀ slot, slot < 32 → set.getLsbD slot = decide (slot ∈ h.entry.agreeing.getD [])) ∧
  (∀ r : RowRecord, r.row ≤ 2047 → r.pixels.length % 2 = 0 →
    r.words.length = 1 + r.pixels.length / 2
    ∧ (r.words.head?.map (·.toNat)) = some (2 * 2 ^ 28 + r.row * 2 ^ 16 + r.frame.toNat)
    ∧ ∀ j, j < r.pixels.length / 2 → (r.words[1 + j]?).map (·.toNat)
        = some (((r.pixels[2 * j]?).getD 0).toNat * 2 ^ 16
            + ((r.pixels[2 * j + 1]?).getD 0).toNat)) ∧
  ∀ t : TailRecord, t.delivered ≤ 4095 → t.dropped ≤ 4095 → t.faults ≤ 65535 →
    t.clip < 2 ^ 24 → (∀ b, t.percentileBin = some b → b ≤ 13) →
    t.words.map (·.toNat) =
      [ 3 * 2 ^ 28 + t.meterValid.toNat * 2 ^ 27 + t.percentileBin.isSome.toNat * 2 ^ 26
          + t.percentileBin.getD 0 * 2 ^ 22 + t.cut.toNat * 2 ^ 21 + t.stopped.toNat * 2 ^ 20
          + t.irregular.toNat * 2 ^ 19 + t.frame.toNat,
        t.delivered * 2 ^ 16 + t.dropped, t.faults * 2 ^ 16, t.clip ]) ∧
  (∀ (f old16 new16 : FrameNo) (x y slot lost : Nat) (nonce : Nonce) (e : Bool) (a b : StationState)
    (c : Cause), x < 2 ^ 16 → y < 2 ^ 16 → slot ≤ 31 → lost ≤ 255 →
    let stateCode : StationState → Nat
      | .off => 0 | .listen => 1 | .joining => 2 | .synced => 3 | .barred => 4
    let causeCode : Cause → Nat
      | .start => 0 | .stop => 1 | .joined => 2 | .synced => 3 | .founded => 4 | .markStall => 5
      | .voidLimit => 6 | .idConflict => 7
    ∀ p ∈ ([
        (.stateChanged a b c, 1, none, some (16 * stateCode a + stateCode b), some (causeCode c)),
        (.peerJoined slot e nonce, 2, some slot, some e.toNat, some nonce.toNat),
        (.peerLost slot e old16, 3, some slot, some e.toNat, some old16.toNat),
        (.slotBusy slot nonce x, 4, some slot, some nonce.toNat, some x),
        (.idConflict slot x nonce, 5, some slot, some x, some nonce.toNat),
        (.voidLimit x a, 6, none, some x, some (stateCode a)),
        (.markStall x a, 7, none, some x, some (stateCode a)),
        (.lineLow, 8, none, none, none),
        (.lineFault .tally (some x), 9, none, some 0, some x),
        (.lineFault .mark none, 9, none, some 1, none),
        (.frameRenumbered old16 new16, 10, none, some old16.toNat, some new16.toNat),
        (.standingAdopted x y, 11, none, some x, some y),
        (.quorumLost x y, 12, none, some x, some y),
        (.quorumRegained x y, 13, none, some x, some y)] :
        List (NoticeBody × Nat × Option Nat × Option Nat × Option Nat)),
      (noticeWords ⟨f, p.1⟩ lost).map (·.toNat) =
        [ 4 * 2 ^ 28 + p.2.1 * 2 ^ 24 + p.2.2.1.isSome.toNat * 2 ^ 23 + p.2.2.1.getD 0 * 2 ^ 18
            + p.2.2.2.1.isSome.toNat * 2 ^ 17 + p.2.2.2.2.isSome.toNat * 2 ^ 16 + f.toNat,
          p.2.2.2.1.getD 0, p.2.2.2.2.getD 0, lost ])

/-! ### Laws of one close and of the fields (R10, R11, R31, R51, R99 to R106, R129, R140) -/

/-- Every AGREED entry a driven CLEAN close makes differs from the standing value of its round by at most the
step limit, and KEPT, HELD and VOID entries carry it unchanged; the standing value of the round is the one
read in a CLEAN round that carries one, else S as it stood (R51). -/
def Obligations.EntriesStayWithinTheStepLimit : Prop :=
  ∀ (s t : State) (e : Entry), s.round.window = .marked → s.station.state ≠ .off →
    s.round.draft.bits.length = 226 → exec .windowClose s = .next t → t.schedule = s.schedule ++ [e] →
    let taken := s.round.draft.drove = true ∧ s.round.drove = true ∧ s.line.withdrawn = false
      ∧ bitAt s.round.draft.bits 225 = .recessive ∧ s.round.voidVote = false
    let S := if taken ∧ bitAt s.round.draft.bits 178 = .dominant
      then valueRead s.round.draft.bits 179 12 else s.agree.standing
    (e.source = .agreed → (e.arrayExv : Int) - S ≤ s.items.stepLimit
      ∧ (S : Int) - e.arrayExv ≤ s.items.stepLimit) ∧
    ((e.source = .kept ∨ e.source = .held ∨ e.source = .void) → e.arrayExv = S) ∧
    ((e.source = .agreed ∨ e.source = .kept ∨ e.source = .held) → taken)

/-- In a MIN contest among stations on one sound line the value read is the least value offered and exactly
the stations that offered it still hold the result; in a MAX contest it is the greatest
(R1, R10, R11). -/
def Obligations.ContestsReadLeastAndGreatest : Prop :=
  ∀ (width : Nat) (offers : List Nat), offers ≠ [] → (∀ v ∈ offers, v < 2 ^ width) →
    let run := contestRun width (offers.map fun v => (.inField, v))
    minContestRead width offers ∈ offers
    ∧ (∀ v ∈ offers, minContestRead width offers ≤ v)
    ∧ run.1.length = width
    ∧ run.2 = offers.map (fun v =>
        if v = minContestRead width offers then FieldStanding.inField else .lost)
    ∧ maxContestRead width offers ∈ offers
    ∧ ∀ v ∈ offers, v ≤ maxContestRead width offers

/-- Two readings of a run of bits that differ in an odd number of bits, or only within eight consecutive
bits, give different check values (R30, R31). -/
def Obligations.CheckValueSeesOddAndShortDifferences : Prop :=
  ∀ a b : List Level, a.length = b.length →
    let differ := (List.range a.length).filter fun i => decide (a[i]? ≠ b[i]?)
    (differ.length % 2 = 1 ∨ differ ≠ [] ∧ ∃ i, ∀ j ∈ differ, i ≤ j ∧ j < i + 8) →
    crcOf a ≠ crcOf b

/-- What a CLEAN or HEARD record does to the 32 records, each against the one roll set, and the notices, one
for each arrival and loss but the own slot's, in ascending order of slot; other records change nothing
(R98 to R100, R102 to R106). -/
def Obligations.RosterFollowsTheTables : Prop :=
  ∀ (it : Items) (r : RoundRecord) (roster : List PeerRecord) (roll : List (Nat × Nonce)),
    1 ≤ it.missLimit → r.roll = some roll → roster.length = 32 →
    let after := (rosterClose it r roster).1
    let notices := (rosterClose it r roster).2
    ((r.outcome = some .void ∨ r.outcome = some .unheard ∨ r.outcome = none) →
      after = roster ∧ notices = []) ∧
    ((r.outcome = some .clean ∨ r.outcome = some .heard) → after.length = 32 ∧
      (∀ (n : Nat) (p : PeerRecord), roster[n]? = some p → ∃ q, after[n]? = some q ∧
        (∀ nonce, roll.lookup n = some nonce →
          q.state = .present ∧ q.missCount = 0 ∧ ∃ v, q.seen = some v ∧ v.lastSeen = r.frame
            ∧ v.nonce = nonce
            ∧ ((p.state = .absent ∨ p.state = .lost) → v.arrival = r.frame)
            ∧ ((p.state = .present ∨ p.state = .missing) → ∀ w, p.seen = some w →
                v.arrival = w.arrival)) ∧
        (roll.lookup n = none → q.seen = p.seen ∧ (q.state, q.missCount) =
          (match p.state with
            | .absent => (.absent, 0)
            | .present => if it.missLimit = 1 then (.lost, 1) else (.missing, 1)
            | .missing =>
              if p.missCount + 1 < it.missLimit then (.missing, p.missCount + 1)
              else (.lost, it.missLimit)
            | .lost => (.lost, it.missLimit)))) ∧
      notices = (List.range 32).filterMap fun n =>
        match roster[n]?, after[n]? with
        | some p, some q =>
          if n = it.slot then none
          else if (p.state = .absent ∨ p.state = .lost) ∧ q.state = .present then
            some ⟨r.frame, .peerJoined n (it.expectedSet.getLsbD n) ((roll.lookup n).getD 0)⟩
          else if p.state ≠ .lost ∧ q.state = .lost then
            some ⟨r.frame, .peerLost n (it.expectedSet.getLsbD n)
              ((p.seen.map (·.lastSeen)).getD 0)⟩
          else none
        | _, _ => none)

/-- Every row read is reset for its frame exactly once before its READ: early, in one slot of the frame
before, if its number is below the frame's time, and otherwise late, E slots before its own READ; after
a cut in slot k the rows whose early slots had not ended, and only those, are caught up. No slot's end
issues more than one READ and two RESETs, and the two are for different rows (R128 to R130, R133,
R140). -/
def Obligations.EveryReadRowIsResetOnce : Prop :=
  (∀ (it : Items) (E : Nat) (plan : Plan), it.rowsRead < it.framePeriod → 1 ≤ E →
    E < it.framePeriod → plan.time = E → ∀ row, row < it.rowsRead →
    (row < E →
      (∃ k, k < it.framePeriod ∧ earlyReset it (some E) k = some row
        ∧ (∀ j, j < it.framePeriod → earlyReset it (some E) j = some row → j = k)
        ∧ ∀ cut, cut < it.framePeriod →
          (row ∈ catchUpRows it (some E) cut ↔ cut ≤ k)) ∧
      ∀ k, lateReset it (some plan) k ≠ some row) ∧
    (E ≤ row →
      lateReset it (some plan) (row - E) = some row
      ∧ (∀ j, lateReset it (some plan) j = some row → j = row - E)
      ∧ ∀ k, earlyReset it (some E) k ≠ some row)) ∧
  ∀ (s t : State) (k : Nat), s.timer.phase = .counting k → exec .rowSlotEnd s = .next t →
    ∃ issued, t.rows.queue = s.rows.queue ++ issued
      ∧ (issued.filter fun c => match c with | .read _ => true | _ => false).length ≤ 1
      ∧ (issued.filter fun c => match c with | .reset _ => true | _ => false).length ≤ 2
      ∧ ((∀ e, s.rows.nextTime = some e → e < s.items.framePeriod) →
          (∀ p, s.rows.current = some p → 1 ≤ p.time) → issued.Nodup)

/-! ### What every command keeps -/

/-- Outside OFF no command changes a configuration item, but for a power-on reset, which ends in OFF
(R160, R165). -/
def Obligations.ItemsAreFrozenOutsideOff : Prop :=
  ∀ (c : Instr) (s t : State), s.station.state ≠ .off → exec c s = .next t →
    t.items = s.items ∨ c = .powerOnReset ∧ t.station.state = .off

/-- The notice list never holds more than 8 notices, and they leave in order of creation: a command appends to
the list, or moves its oldest notice to the queue's end, or is a power-on reset and empties it; a command
that appends sets the attention flag (R150 to R152, R165). That no command both appends and moves is the
model's choice: the notices of one command are created before any moves, and a notice moves at NOTICE_MOVE
alone (log entry 31). -/
def Obligations.NoticeListIsBoundedAndInOrder : Prop :=
  ∀ (c : Instr) (s t : State), s.out.notices.length ≤ 8 → exec c s = .next t →
    t.out.notices.length ≤ 8 ∧
    ((∃ new, t.out.notices = s.out.notices ++ new ∧ (new ≠ [] → t.port.attention = true))
      ∨ c = .noticeMove ∧ (∃ n, s.out.notices = n :: t.out.notices
          ∧ t.out.queue = s.out.queue ++ [.notice n s.out.lost])
      ∨ c = .powerOnReset ∧ t.out.notices = [])

/-- Every change of the station state is one of the transitions of section 5.2, made by a command that the
table names for it, and STATE_CHANGED with its cause is in the list unless the list is full; a command
that leaves the state as it stands creates no STATE_CHANGED (R80, R81 to R83, R95). -/
def Obligations.TransitionsFollowTheTable : Prop :=
  ∀ (c : Instr) (s t : State), s.out.notices.length ≤ 8 → exec c s = .next t →
    c ≠ .powerOnReset →
    let creates (n : Notice) : Prop := ∃ old new cause, n.body = .stateChanged old new cause
    (t.station.state = s.station.state →
      ∀ n ∈ t.out.notices.drop s.out.notices.length, ¬ creates n) ∧
    (t.station.state ≠ s.station.state → ∃ cause frame,
      (t.out.notices.length = 8
        ∨ ⟨frame, .stateChanged s.station.state t.station.state cause⟩ ∈ t.out.notices) ∧
      ((s.station.state = .off ∧ t.station.state = .listen ∧ cause = .start ∧ frame = 65535
          ∧ ∃ m, c = .start m)
        ∨ (s.station.state = .listen ∧ t.station.state = .joining ∧ cause = .joined
          ∧ frame = s.timer.current ∧ (c = .windowClose ∨ ∃ b, c = .mark b))
        ∨ (s.station.state = .listen ∧ t.station.state = .synced ∧ cause = .founded
          ∧ frame = t.timer.current ∧ c = .patienceExpiry .recessive)
        ∨ (s.station.state = .joining ∧ t.station.state = .synced ∧ cause = .synced
          ∧ frame = s.timer.current ∧ (c = .windowClose ∨ ∃ b, c = .mark b))
        ∨ ((s.station.state = .joining ∨ s.station.state = .synced) ∧ t.station.state = .listen
          ∧ cause = .voidLimit ∧ frame = s.timer.current ∧ (c = .windowClose ∨ ∃ b, c = .mark b))
        ∨ ((s.station.state = .joining ∨ s.station.state = .synced) ∧ t.station.state = .listen
          ∧ cause = .markStall ∧ frame = t.timer.current ∧ ∃ m, c = .patienceExpiry m)
        ∨ ((s.station.state = .joining ∨ s.station.state = .synced) ∧ t.station.state = .barred
          ∧ cause = .idConflict ∧ frame = s.timer.current ∧ ∃ l, c = .roundBitSample l)
        ∨ (t.station.state = .off ∧ cause = .stop ∧ frame = s.timer.current ∧ c = .stop)))

/-- The invariant under which the laws below are stated, kept by every step from every state: the items lie
in their ranges and outside OFF pass the checks of START, and the phases of the frame timer, the row
engine and the meter, the station state and the window fit together. With it, on its own premise, MARK
and TALLY are pulled only in JOINING and SYNCED and MARK only while slots are counted, and the nonce
register is never zero (R3, R24, R62, R64, R74, R124, R125, R160). -/
def Obligations.EveryStepKeepsTheShape : Prop :=
  ∀ s t : State, step s = .next t →
    (s.sound = true → t.sound = true)
    ∧ (s.linesAllowed = true → t.linesAllowed = true)
    ∧ (s.nonceNonzero = true → t.nonceNonzero = true)

/-- Every record's miss count is the one R101 gives its state, outside OFF, in all 32 records (R101; in OFF
the miss limit may have been rewritten since, R110). -/
def Obligations.EveryStepKeepsMissCounts : Prop :=
  ∀ s t : State, s.sound = true → s.rosterRight = true → step s = .next t → t.rosterRight = true

/-- The schedule holds exactly the entries R54 gives the moment, in order of their frames: none in OFF, the
two primed in the lead-in, the running frame's and the next from a frame start to the window close, and
the one after from there. So it never holds more than three, and no two for one frame (R54 to R57, R59). -/
def Obligations.EveryStepKeepsTheScheduleInOrder : Prop :=
  ∀ s t : State, s.sound = true → s.scheduleRight = true → step s = .next t →
    t.scheduleRight = true ∧ t.schedule.length ≤ 3 ∧ (t.schedule.map (·.target)).Nodup

/-- Every exposure value is an EXV, every schedule entry and plan lies in its ranges and follows the ladder
from its creation to its retirement, and every count named in State.countsInRange lies in its range: the
station controller's, the settle counter, the wait timer, the mark lag, the meter's bins, samples and window
rows and those of its latest result, the frame fault count, the frame counts, the skip counter, the lost
count and the eight counters. The counts are kept where the stream is in its shape, which is a law of its
own (R42, R52, R53, R60, R62, R64, R79, R111, R118, R122, R125, R142, R164). -/
def Obligations.EveryStepKeepsValuesInRange : Prop :=
  ∀ s t : State, s.sound = true → step s = .next t →
    (s.exposuresInRange = true → t.exposuresInRange = true)
    ∧ (s.scheduleRight = true → s.scheduleByLadder → t.scheduleByLadder)
    ∧ (s.streamRight → s.countsInRange = true → t.countsInRange = true)

/-- The output queue never holds more than 16 row entries, 8 control entries or 16384 pixels, a reserved TAIL
entry counted; and in the stream each admitted frame's HEAD is followed by its ROWs in ascending row
number and then its TAIL, with NOTICEs only between frames (R143, R148). -/
def Obligations.EveryStepKeepsTheStreamInShape : Prop :=
  ∀ s t : State, s.sound = true → s.streamRight → step s = .next t → t.streamRight

/-- The state right after reset meets every law above (R2, R19, R54, R97, R142, R165). -/
def Obligations.ResetMeetsEveryLaw : Prop :=
  State.reset.sound = true ∧ State.reset.linesAllowed = true ∧ State.reset.nonceNonzero = true
    ∧ State.reset.rosterRight = true ∧ State.reset.scheduleRight = true
    ∧ State.reset.exposuresInRange = true ∧ State.reset.scheduleByLadder
    ∧ State.reset.countsInRange = true ∧ State.reset.noticesBounded = true
    ∧ State.reset.streamRight
end

