-- ==== Sys2Proof/Laws/State.lean ====
section
/-! SUPPORT. Every field of State after each replacement of one block: true by rfl, for simp. -/

namespace Sys2Proof.Machine

variable (s : State)

@[simp] theorem State.withLine_line (x : TallyInterface) : (s.withLine x).line = x := rfl
@[simp] theorem State.withLine_round (x : TallyInterface) : (s.withLine x).round = s.round := rfl
@[simp] theorem State.withLine_station (x : TallyInterface) : (s.withLine x).station = s.station := rfl
@[simp] theorem State.withLine_timer (x : TallyInterface) : (s.withLine x).timer = s.timer := rfl
@[simp] theorem State.withLine_roster (x : TallyInterface) : (s.withLine x).roster = s.roster := rfl
@[simp] theorem State.withLine_agree (x : TallyInterface) : (s.withLine x).agree = s.agree := rfl
@[simp] theorem State.withLine_schedule (x : TallyInterface) : (s.withLine x).schedule = s.schedule := rfl
@[simp] theorem State.withLine_meter (x : TallyInterface) : (s.withLine x).meter = s.meter := rfl
@[simp] theorem State.withLine_rows (x : TallyInterface) : (s.withLine x).rows = s.rows := rfl
@[simp] theorem State.withLine_out (x : TallyInterface) : (s.withLine x).out = s.out := rfl
@[simp] theorem State.withLine_port (x : TallyInterface) : (s.withLine x).port = s.port := rfl
@[simp] theorem State.withLine_freeCount (x : TallyInterface) : (s.withLine x).freeCount = s.freeCount := rfl
@[simp] theorem State.withLine_pending (x : TallyInterface) : (s.withLine x).pending = s.pending := rfl
@[simp] theorem State.withLine_items (x : TallyInterface) : (s.withLine x).items = s.items := rfl

@[simp] theorem State.withRound_line (x : RoundEngine) : (s.withRound x).line = s.line := rfl
@[simp] theorem State.withRound_round (x : RoundEngine) : (s.withRound x).round = x := rfl
@[simp] theorem State.withRound_station (x : RoundEngine) : (s.withRound x).station = s.station := rfl
@[simp] theorem State.withRound_timer (x : RoundEngine) : (s.withRound x).timer = s.timer := rfl
@[simp] theorem State.withRound_roster (x : RoundEngine) : (s.withRound x).roster = s.roster := rfl
@[simp] theorem State.withRound_agree (x : RoundEngine) : (s.withRound x).agree = s.agree := rfl
@[simp] theorem State.withRound_schedule (x : RoundEngine) : (s.withRound x).schedule = s.schedule := rfl
@[simp] theorem State.withRound_meter (x : RoundEngine) : (s.withRound x).meter = s.meter := rfl
@[simp] theorem State.withRound_rows (x : RoundEngine) : (s.withRound x).rows = s.rows := rfl
@[simp] theorem State.withRound_out (x : RoundEngine) : (s.withRound x).out = s.out := rfl
@[simp] theorem State.withRound_port (x : RoundEngine) : (s.withRound x).port = s.port := rfl
@[simp] theorem State.withRound_freeCount (x : RoundEngine) : (s.withRound x).freeCount = s.freeCount := rfl
@[simp] theorem State.withRound_pending (x : RoundEngine) : (s.withRound x).pending = s.pending := rfl
@[simp] theorem State.withRound_items (x : RoundEngine) : (s.withRound x).items = s.items := rfl

@[simp] theorem State.withStation_line (x : StationController) : (s.withStation x).line = s.line := rfl
@[simp] theorem State.withStation_round (x : StationController) : (s.withStation x).round = s.round := rfl
@[simp] theorem State.withStation_station (x : StationController) : (s.withStation x).station = x := rfl
@[simp] theorem State.withStation_timer (x : StationController) : (s.withStation x).timer = s.timer := rfl
@[simp] theorem State.withStation_roster (x : StationController) : (s.withStation x).roster = s.roster := rfl
@[simp] theorem State.withStation_agree (x : StationController) : (s.withStation x).agree = s.agree := rfl
@[simp] theorem State.withStation_schedule (x : StationController) : (s.withStation x).schedule = s.schedule := rfl
@[simp] theorem State.withStation_meter (x : StationController) : (s.withStation x).meter = s.meter := rfl
@[simp] theorem State.withStation_rows (x : StationController) : (s.withStation x).rows = s.rows := rfl
@[simp] theorem State.withStation_out (x : StationController) : (s.withStation x).out = s.out := rfl
@[simp] theorem State.withStation_port (x : StationController) : (s.withStation x).port = s.port := rfl
@[simp] theorem State.withStation_freeCount (x : StationController) : (s.withStation x).freeCount = s.freeCount := rfl
@[simp] theorem State.withStation_pending (x : StationController) : (s.withStation x).pending = s.pending := rfl
@[simp] theorem State.withStation_items (x : StationController) : (s.withStation x).items = s.items := rfl

@[simp] theorem State.withTimer_line (x : FrameTimer) : (s.withTimer x).line = s.line := rfl
@[simp] theorem State.withTimer_round (x : FrameTimer) : (s.withTimer x).round = s.round := rfl
@[simp] theorem State.withTimer_station (x : FrameTimer) : (s.withTimer x).station = s.station := rfl
@[simp] theorem State.withTimer_timer (x : FrameTimer) : (s.withTimer x).timer = x := rfl
@[simp] theorem State.withTimer_roster (x : FrameTimer) : (s.withTimer x).roster = s.roster := rfl
@[simp] theorem State.withTimer_agree (x : FrameTimer) : (s.withTimer x).agree = s.agree := rfl
@[simp] theorem State.withTimer_schedule (x : FrameTimer) : (s.withTimer x).schedule = s.schedule := rfl
@[simp] theorem State.withTimer_meter (x : FrameTimer) : (s.withTimer x).meter = s.meter := rfl
@[simp] theorem State.withTimer_rows (x : FrameTimer) : (s.withTimer x).rows = s.rows := rfl
@[simp] theorem State.withTimer_out (x : FrameTimer) : (s.withTimer x).out = s.out := rfl
@[simp] theorem State.withTimer_port (x : FrameTimer) : (s.withTimer x).port = s.port := rfl
@[simp] theorem State.withTimer_freeCount (x : FrameTimer) : (s.withTimer x).freeCount = s.freeCount := rfl
@[simp] theorem State.withTimer_pending (x : FrameTimer) : (s.withTimer x).pending = s.pending := rfl
@[simp] theorem State.withTimer_items (x : FrameTimer) : (s.withTimer x).items = s.items := rfl

@[simp] theorem State.withRoster_line (x : List PeerRecord) : (s.withRoster x).line = s.line := rfl
@[simp] theorem State.withRoster_round (x : List PeerRecord) : (s.withRoster x).round = s.round := rfl
@[simp] theorem State.withRoster_station (x : List PeerRecord) : (s.withRoster x).station = s.station := rfl
@[simp] theorem State.withRoster_timer (x : List PeerRecord) : (s.withRoster x).timer = s.timer := rfl
@[simp] theorem State.withRoster_roster (x : List PeerRecord) : (s.withRoster x).roster = x := rfl
@[simp] theorem State.withRoster_agree (x : List PeerRecord) : (s.withRoster x).agree = s.agree := rfl
@[simp] theorem State.withRoster_schedule (x : List PeerRecord) : (s.withRoster x).schedule = s.schedule := rfl
@[simp] theorem State.withRoster_meter (x : List PeerRecord) : (s.withRoster x).meter = s.meter := rfl
@[simp] theorem State.withRoster_rows (x : List PeerRecord) : (s.withRoster x).rows = s.rows := rfl
@[simp] theorem State.withRoster_out (x : List PeerRecord) : (s.withRoster x).out = s.out := rfl
@[simp] theorem State.withRoster_port (x : List PeerRecord) : (s.withRoster x).port = s.port := rfl
@[simp] theorem State.withRoster_freeCount (x : List PeerRecord) : (s.withRoster x).freeCount = s.freeCount := rfl
@[simp] theorem State.withRoster_pending (x : List PeerRecord) : (s.withRoster x).pending = s.pending := rfl
@[simp] theorem State.withRoster_items (x : List PeerRecord) : (s.withRoster x).items = s.items := rfl

@[simp] theorem State.withAgree_line (x : AgreementUnit) : (s.withAgree x).line = s.line := rfl
@[simp] theorem State.withAgree_round (x : AgreementUnit) : (s.withAgree x).round = s.round := rfl
@[simp] theorem State.withAgree_station (x : AgreementUnit) : (s.withAgree x).station = s.station := rfl
@[simp] theorem State.withAgree_timer (x : AgreementUnit) : (s.withAgree x).timer = s.timer := rfl
@[simp] theorem State.withAgree_roster (x : AgreementUnit) : (s.withAgree x).roster = s.roster := rfl
@[simp] theorem State.withAgree_agree (x : AgreementUnit) : (s.withAgree x).agree = x := rfl
@[simp] theorem State.withAgree_schedule (x : AgreementUnit) : (s.withAgree x).schedule = s.schedule := rfl
@[simp] theorem State.withAgree_meter (x : AgreementUnit) : (s.withAgree x).meter = s.meter := rfl
@[simp] theorem State.withAgree_rows (x : AgreementUnit) : (s.withAgree x).rows = s.rows := rfl
@[simp] theorem State.withAgree_out (x : AgreementUnit) : (s.withAgree x).out = s.out := rfl
@[simp] theorem State.withAgree_port (x : AgreementUnit) : (s.withAgree x).port = s.port := rfl
@[simp] theorem State.withAgree_freeCount (x : AgreementUnit) : (s.withAgree x).freeCount = s.freeCount := rfl
@[simp] theorem State.withAgree_pending (x : AgreementUnit) : (s.withAgree x).pending = s.pending := rfl
@[simp] theorem State.withAgree_items (x : AgreementUnit) : (s.withAgree x).items = s.items := rfl

@[simp] theorem State.withSchedule_line (x : List Entry) : (s.withSchedule x).line = s.line := rfl
@[simp] theorem State.withSchedule_round (x : List Entry) : (s.withSchedule x).round = s.round := rfl
@[simp] theorem State.withSchedule_station (x : List Entry) : (s.withSchedule x).station = s.station := rfl
@[simp] theorem State.withSchedule_timer (x : List Entry) : (s.withSchedule x).timer = s.timer := rfl
@[simp] theorem State.withSchedule_roster (x : List Entry) : (s.withSchedule x).roster = s.roster := rfl
@[simp] theorem State.withSchedule_agree (x : List Entry) : (s.withSchedule x).agree = s.agree := rfl
@[simp] theorem State.withSchedule_schedule (x : List Entry) : (s.withSchedule x).schedule = x := rfl
@[simp] theorem State.withSchedule_meter (x : List Entry) : (s.withSchedule x).meter = s.meter := rfl
@[simp] theorem State.withSchedule_rows (x : List Entry) : (s.withSchedule x).rows = s.rows := rfl
@[simp] theorem State.withSchedule_out (x : List Entry) : (s.withSchedule x).out = s.out := rfl
@[simp] theorem State.withSchedule_port (x : List Entry) : (s.withSchedule x).port = s.port := rfl
@[simp] theorem State.withSchedule_freeCount (x : List Entry) : (s.withSchedule x).freeCount = s.freeCount := rfl
@[simp] theorem State.withSchedule_pending (x : List Entry) : (s.withSchedule x).pending = s.pending := rfl
@[simp] theorem State.withSchedule_items (x : List Entry) : (s.withSchedule x).items = s.items := rfl

@[simp] theorem State.withMeter_line (x : Meter) : (s.withMeter x).line = s.line := rfl
@[simp] theorem State.withMeter_round (x : Meter) : (s.withMeter x).round = s.round := rfl
@[simp] theorem State.withMeter_station (x : Meter) : (s.withMeter x).station = s.station := rfl
@[simp] theorem State.withMeter_timer (x : Meter) : (s.withMeter x).timer = s.timer := rfl
@[simp] theorem State.withMeter_roster (x : Meter) : (s.withMeter x).roster = s.roster := rfl
@[simp] theorem State.withMeter_agree (x : Meter) : (s.withMeter x).agree = s.agree := rfl
@[simp] theorem State.withMeter_schedule (x : Meter) : (s.withMeter x).schedule = s.schedule := rfl
@[simp] theorem State.withMeter_meter (x : Meter) : (s.withMeter x).meter = x := rfl
@[simp] theorem State.withMeter_rows (x : Meter) : (s.withMeter x).rows = s.rows := rfl
@[simp] theorem State.withMeter_out (x : Meter) : (s.withMeter x).out = s.out := rfl
@[simp] theorem State.withMeter_port (x : Meter) : (s.withMeter x).port = s.port := rfl
@[simp] theorem State.withMeter_freeCount (x : Meter) : (s.withMeter x).freeCount = s.freeCount := rfl
@[simp] theorem State.withMeter_pending (x : Meter) : (s.withMeter x).pending = s.pending := rfl
@[simp] theorem State.withMeter_items (x : Meter) : (s.withMeter x).items = s.items := rfl

@[simp] theorem State.withRows_line (x : RowEngine) : (s.withRows x).line = s.line := rfl
@[simp] theorem State.withRows_round (x : RowEngine) : (s.withRows x).round = s.round := rfl
@[simp] theorem State.withRows_station (x : RowEngine) : (s.withRows x).station = s.station := rfl
@[simp] theorem State.withRows_timer (x : RowEngine) : (s.withRows x).timer = s.timer := rfl
@[simp] theorem State.withRows_roster (x : RowEngine) : (s.withRows x).roster = s.roster := rfl
@[simp] theorem State.withRows_agree (x : RowEngine) : (s.withRows x).agree = s.agree := rfl
@[simp] theorem State.withRows_schedule (x : RowEngine) : (s.withRows x).schedule = s.schedule := rfl
@[simp] theorem State.withRows_meter (x : RowEngine) : (s.withRows x).meter = s.meter := rfl
@[simp] theorem State.withRows_rows (x : RowEngine) : (s.withRows x).rows = x := rfl
@[simp] theorem State.withRows_out (x : RowEngine) : (s.withRows x).out = s.out := rfl
@[simp] theorem State.withRows_port (x : RowEngine) : (s.withRows x).port = s.port := rfl
@[simp] theorem State.withRows_freeCount (x : RowEngine) : (s.withRows x).freeCount = s.freeCount := rfl
@[simp] theorem State.withRows_pending (x : RowEngine) : (s.withRows x).pending = s.pending := rfl
@[simp] theorem State.withRows_items (x : RowEngine) : (s.withRows x).items = s.items := rfl

@[simp] theorem State.withOut_line (x : OutputUnit) : (s.withOut x).line = s.line := rfl
@[simp] theorem State.withOut_round (x : OutputUnit) : (s.withOut x).round = s.round := rfl
@[simp] theorem State.withOut_station (x : OutputUnit) : (s.withOut x).station = s.station := rfl
@[simp] theorem State.withOut_timer (x : OutputUnit) : (s.withOut x).timer = s.timer := rfl
@[simp] theorem State.withOut_roster (x : OutputUnit) : (s.withOut x).roster = s.roster := rfl
@[simp] theorem State.withOut_agree (x : OutputUnit) : (s.withOut x).agree = s.agree := rfl
@[simp] theorem State.withOut_schedule (x : OutputUnit) : (s.withOut x).schedule = s.schedule := rfl
@[simp] theorem State.withOut_meter (x : OutputUnit) : (s.withOut x).meter = s.meter := rfl
@[simp] theorem State.withOut_rows (x : OutputUnit) : (s.withOut x).rows = s.rows := rfl
@[simp] theorem State.withOut_out (x : OutputUnit) : (s.withOut x).out = x := rfl
@[simp] theorem State.withOut_port (x : OutputUnit) : (s.withOut x).port = s.port := rfl
@[simp] theorem State.withOut_freeCount (x : OutputUnit) : (s.withOut x).freeCount = s.freeCount := rfl
@[simp] theorem State.withOut_pending (x : OutputUnit) : (s.withOut x).pending = s.pending := rfl
@[simp] theorem State.withOut_items (x : OutputUnit) : (s.withOut x).items = s.items := rfl

@[simp] theorem State.withPort_line (x : ControlPort) : (s.withPort x).line = s.line := rfl
@[simp] theorem State.withPort_round (x : ControlPort) : (s.withPort x).round = s.round := rfl
@[simp] theorem State.withPort_station (x : ControlPort) : (s.withPort x).station = s.station := rfl
@[simp] theorem State.withPort_timer (x : ControlPort) : (s.withPort x).timer = s.timer := rfl
@[simp] theorem State.withPort_roster (x : ControlPort) : (s.withPort x).roster = s.roster := rfl
@[simp] theorem State.withPort_agree (x : ControlPort) : (s.withPort x).agree = s.agree := rfl
@[simp] theorem State.withPort_schedule (x : ControlPort) : (s.withPort x).schedule = s.schedule := rfl
@[simp] theorem State.withPort_meter (x : ControlPort) : (s.withPort x).meter = s.meter := rfl
@[simp] theorem State.withPort_rows (x : ControlPort) : (s.withPort x).rows = s.rows := rfl
@[simp] theorem State.withPort_out (x : ControlPort) : (s.withPort x).out = s.out := rfl
@[simp] theorem State.withPort_port (x : ControlPort) : (s.withPort x).port = x := rfl
@[simp] theorem State.withPort_freeCount (x : ControlPort) : (s.withPort x).freeCount = s.freeCount := rfl
@[simp] theorem State.withPort_pending (x : ControlPort) : (s.withPort x).pending = s.pending := rfl
@[simp] theorem State.withPort_items (x : ControlPort) : (s.withPort x).items = x.items := rfl

@[simp] theorem State.withFreeCount_line (x : Nat) : (s.withFreeCount x).line = s.line := rfl
@[simp] theorem State.withFreeCount_round (x : Nat) : (s.withFreeCount x).round = s.round := rfl
@[simp] theorem State.withFreeCount_station (x : Nat) : (s.withFreeCount x).station = s.station := rfl
@[simp] theorem State.withFreeCount_timer (x : Nat) : (s.withFreeCount x).timer = s.timer := rfl
@[simp] theorem State.withFreeCount_roster (x : Nat) : (s.withFreeCount x).roster = s.roster := rfl
@[simp] theorem State.withFreeCount_agree (x : Nat) : (s.withFreeCount x).agree = s.agree := rfl
@[simp] theorem State.withFreeCount_schedule (x : Nat) : (s.withFreeCount x).schedule = s.schedule := rfl
@[simp] theorem State.withFreeCount_meter (x : Nat) : (s.withFreeCount x).meter = s.meter := rfl
@[simp] theorem State.withFreeCount_rows (x : Nat) : (s.withFreeCount x).rows = s.rows := rfl
@[simp] theorem State.withFreeCount_out (x : Nat) : (s.withFreeCount x).out = s.out := rfl
@[simp] theorem State.withFreeCount_port (x : Nat) : (s.withFreeCount x).port = s.port := rfl
@[simp] theorem State.withFreeCount_freeCount (x : Nat) : (s.withFreeCount x).freeCount = x := rfl
@[simp] theorem State.withFreeCount_pending (x : Nat) : (s.withFreeCount x).pending = s.pending := rfl
@[simp] theorem State.withFreeCount_items (x : Nat) : (s.withFreeCount x).items = s.items := rfl

@[simp] theorem State.withPending_line (x : List Instr) : (s.withPending x).line = s.line := rfl
@[simp] theorem State.withPending_round (x : List Instr) : (s.withPending x).round = s.round := rfl
@[simp] theorem State.withPending_station (x : List Instr) : (s.withPending x).station = s.station := rfl
@[simp] theorem State.withPending_timer (x : List Instr) : (s.withPending x).timer = s.timer := rfl
@[simp] theorem State.withPending_roster (x : List Instr) : (s.withPending x).roster = s.roster := rfl
@[simp] theorem State.withPending_agree (x : List Instr) : (s.withPending x).agree = s.agree := rfl
@[simp] theorem State.withPending_schedule (x : List Instr) : (s.withPending x).schedule = s.schedule := rfl
@[simp] theorem State.withPending_meter (x : List Instr) : (s.withPending x).meter = s.meter := rfl
@[simp] theorem State.withPending_rows (x : List Instr) : (s.withPending x).rows = s.rows := rfl
@[simp] theorem State.withPending_out (x : List Instr) : (s.withPending x).out = s.out := rfl
@[simp] theorem State.withPending_port (x : List Instr) : (s.withPending x).port = s.port := rfl
@[simp] theorem State.withPending_freeCount (x : List Instr) : (s.withPending x).freeCount = s.freeCount := rfl
@[simp] theorem State.withPending_pending (x : List Instr) : (s.withPending x).pending = x := rfl
@[simp] theorem State.withPending_items (x : List Instr) : (s.withPending x).items = s.items := rfl

@[simp] theorem State.count_line (f : Counters → Counters) : (s.count f).line = s.line := rfl
@[simp] theorem State.count_round (f : Counters → Counters) : (s.count f).round = s.round := rfl
@[simp] theorem State.count_station (f : Counters → Counters) : (s.count f).station = s.station := rfl
@[simp] theorem State.count_timer (f : Counters → Counters) : (s.count f).timer = s.timer := rfl
@[simp] theorem State.count_roster (f : Counters → Counters) : (s.count f).roster = s.roster := rfl
@[simp] theorem State.count_agree (f : Counters → Counters) : (s.count f).agree = s.agree := rfl
@[simp] theorem State.count_schedule (f : Counters → Counters) : (s.count f).schedule = s.schedule := rfl
@[simp] theorem State.count_meter (f : Counters → Counters) : (s.count f).meter = s.meter := rfl
@[simp] theorem State.count_rows (f : Counters → Counters) : (s.count f).rows = s.rows := rfl
@[simp] theorem State.count_out (f : Counters → Counters) : (s.count f).out = s.out := rfl
@[simp] theorem State.count_freeCount (f : Counters → Counters) : (s.count f).freeCount = s.freeCount := rfl
@[simp] theorem State.count_pending (f : Counters → Counters) : (s.count f).pending = s.pending := rfl
@[simp] theorem State.count_port_mode (f : Counters → Counters) : (s.count f).port.mode = s.port.mode := rfl
@[simp] theorem State.count_port_items (f : Counters → Counters) : (s.count f).port.items = s.port.items := rfl
@[simp] theorem State.count_port_result (f : Counters → Counters) : (s.count f).port.result = s.port.result := rfl
@[simp] theorem State.count_port_startError (f : Counters → Counters) : (s.count f).port.startError = s.port.startError := rfl
@[simp] theorem State.count_port_attention (f : Counters → Counters) : (s.count f).port.attention = s.port.attention := rfl
@[simp] theorem State.count_port_transaction (f : Counters → Counters) : (s.count f).port.transaction = s.port.transaction := rfl
@[simp] theorem State.count_port_counters (f : Counters → Counters) :
    (s.count f).port.counters = f s.port.counters := rfl
@[simp] theorem State.count_items (f : Counters → Counters) : (s.count f).items = s.items := rfl

end Sys2Proof.Machine
end

