-- ==== Sys2Proof/Laws/Ops.lean ====
section
/-! SUPPORT. What creating notices, holding MARK and moving the station leave unchanged, and what they do
to the rest: the lemmas the provers cite instead of unfolding these operations. -/

namespace Sys2Proof.Machine

/-! ### Creating notices -/

/-- A notice created changes only the notice list or the lost counts, and the attention of the port. -/
theorem State.createNotice_cases (s : State) (n : Notice) :
    (s.out.notices.length < noticeCapacity ∧
      s.createNotice n =
        (s.withOut { s.out with notices := s.out.notices ++ [n] }).withPort s.port.attend) ∨
    (noticeCapacity ≤ s.out.notices.length ∧
      s.createNotice n =
        ((s.withOut { s.out with lost := satSucc 255 s.out.lost }).withPort s.port.attend).count
          Counters.addLostNotice) := by
  by_cases h : s.out.notices.length < noticeCapacity
  · exact .inl ⟨h, by simp [State.createNotice, h]⟩
  · exact .inr ⟨Nat.le_of_not_lt h, by simp [State.createNotice, h]⟩

/-- A view that one created notice leaves unchanged is left unchanged by all of them. -/
theorem State.createAll_view {α : Type} (f : State → α) (h : ∀ s n, f (s.createNotice n) = f s)
    (ns : List Notice) (s : State) : f (s.createAll ns) = f s := by
  induction ns generalizing s with
  | nil => rfl
  | cons n ns ih =>
    show f ((s.createNotice n).createAll ns) = f s
    rw [ih, h]

/-- The same for the notices of one event, for a view that does not look at the free-value counter. -/
theorem State.createMerged_view {α : Type} (f : State → α) (h : ∀ s n, f (s.createNotice n) = f s)
    (hf : ∀ s n, f (s.withFreeCount n) = f s) (qs : List (List Notice)) (s : State) :
    f (s.createMerged qs) = f s := by
  unfold State.createMerged
  rw [State.createAll_view f h, hf]

@[simp] theorem State.createNotice_line (s : State) (n : Notice) :
    (s.createNotice n).line = s.line := by
  rcases s.createNotice_cases n with ⟨_, h⟩ | ⟨_, h⟩ <;> rw [h] <;> rfl
@[simp] theorem State.createAll_line (s : State) (ns : List Notice) :
    (s.createAll ns).line = s.line :=
  State.createAll_view (·.line) (fun s n => s.createNotice_line n) ns s
@[simp] theorem State.createMerged_line (s : State) (qs : List (List Notice)) :
    (s.createMerged qs).line = s.line :=
  State.createMerged_view (·.line) (fun s n => s.createNotice_line n) (fun _ _ => rfl) qs s
@[simp] theorem State.createNotice_round (s : State) (n : Notice) :
    (s.createNotice n).round = s.round := by
  rcases s.createNotice_cases n with ⟨_, h⟩ | ⟨_, h⟩ <;> rw [h] <;> rfl
@[simp] theorem State.createAll_round (s : State) (ns : List Notice) :
    (s.createAll ns).round = s.round :=
  State.createAll_view (·.round) (fun s n => s.createNotice_round n) ns s
@[simp] theorem State.createMerged_round (s : State) (qs : List (List Notice)) :
    (s.createMerged qs).round = s.round :=
  State.createMerged_view (·.round) (fun s n => s.createNotice_round n) (fun _ _ => rfl) qs s
@[simp] theorem State.createNotice_station (s : State) (n : Notice) :
    (s.createNotice n).station = s.station := by
  rcases s.createNotice_cases n with ⟨_, h⟩ | ⟨_, h⟩ <;> rw [h] <;> rfl
@[simp] theorem State.createAll_station (s : State) (ns : List Notice) :
    (s.createAll ns).station = s.station :=
  State.createAll_view (·.station) (fun s n => s.createNotice_station n) ns s
@[simp] theorem State.createMerged_station (s : State) (qs : List (List Notice)) :
    (s.createMerged qs).station = s.station :=
  State.createMerged_view (·.station) (fun s n => s.createNotice_station n) (fun _ _ => rfl) qs s
@[simp] theorem State.createNotice_timer (s : State) (n : Notice) :
    (s.createNotice n).timer = s.timer := by
  rcases s.createNotice_cases n with ⟨_, h⟩ | ⟨_, h⟩ <;> rw [h] <;> rfl
@[simp] theorem State.createAll_timer (s : State) (ns : List Notice) :
    (s.createAll ns).timer = s.timer :=
  State.createAll_view (·.timer) (fun s n => s.createNotice_timer n) ns s
@[simp] theorem State.createMerged_timer (s : State) (qs : List (List Notice)) :
    (s.createMerged qs).timer = s.timer :=
  State.createMerged_view (·.timer) (fun s n => s.createNotice_timer n) (fun _ _ => rfl) qs s
@[simp] theorem State.createNotice_roster (s : State) (n : Notice) :
    (s.createNotice n).roster = s.roster := by
  rcases s.createNotice_cases n with ⟨_, h⟩ | ⟨_, h⟩ <;> rw [h] <;> rfl
@[simp] theorem State.createAll_roster (s : State) (ns : List Notice) :
    (s.createAll ns).roster = s.roster :=
  State.createAll_view (·.roster) (fun s n => s.createNotice_roster n) ns s
@[simp] theorem State.createMerged_roster (s : State) (qs : List (List Notice)) :
    (s.createMerged qs).roster = s.roster :=
  State.createMerged_view (·.roster) (fun s n => s.createNotice_roster n) (fun _ _ => rfl) qs s
@[simp] theorem State.createNotice_agree (s : State) (n : Notice) :
    (s.createNotice n).agree = s.agree := by
  rcases s.createNotice_cases n with ⟨_, h⟩ | ⟨_, h⟩ <;> rw [h] <;> rfl
@[simp] theorem State.createAll_agree (s : State) (ns : List Notice) :
    (s.createAll ns).agree = s.agree :=
  State.createAll_view (·.agree) (fun s n => s.createNotice_agree n) ns s
@[simp] theorem State.createMerged_agree (s : State) (qs : List (List Notice)) :
    (s.createMerged qs).agree = s.agree :=
  State.createMerged_view (·.agree) (fun s n => s.createNotice_agree n) (fun _ _ => rfl) qs s
@[simp] theorem State.createNotice_schedule (s : State) (n : Notice) :
    (s.createNotice n).schedule = s.schedule := by
  rcases s.createNotice_cases n with ⟨_, h⟩ | ⟨_, h⟩ <;> rw [h] <;> rfl
@[simp] theorem State.createAll_schedule (s : State) (ns : List Notice) :
    (s.createAll ns).schedule = s.schedule :=
  State.createAll_view (·.schedule) (fun s n => s.createNotice_schedule n) ns s
@[simp] theorem State.createMerged_schedule (s : State) (qs : List (List Notice)) :
    (s.createMerged qs).schedule = s.schedule :=
  State.createMerged_view (·.schedule) (fun s n => s.createNotice_schedule n) (fun _ _ => rfl) qs s
@[simp] theorem State.createNotice_meter (s : State) (n : Notice) :
    (s.createNotice n).meter = s.meter := by
  rcases s.createNotice_cases n with ⟨_, h⟩ | ⟨_, h⟩ <;> rw [h] <;> rfl
@[simp] theorem State.createAll_meter (s : State) (ns : List Notice) :
    (s.createAll ns).meter = s.meter :=
  State.createAll_view (·.meter) (fun s n => s.createNotice_meter n) ns s
@[simp] theorem State.createMerged_meter (s : State) (qs : List (List Notice)) :
    (s.createMerged qs).meter = s.meter :=
  State.createMerged_view (·.meter) (fun s n => s.createNotice_meter n) (fun _ _ => rfl) qs s
@[simp] theorem State.createNotice_rows (s : State) (n : Notice) :
    (s.createNotice n).rows = s.rows := by
  rcases s.createNotice_cases n with ⟨_, h⟩ | ⟨_, h⟩ <;> rw [h] <;> rfl
@[simp] theorem State.createAll_rows (s : State) (ns : List Notice) :
    (s.createAll ns).rows = s.rows :=
  State.createAll_view (·.rows) (fun s n => s.createNotice_rows n) ns s
@[simp] theorem State.createMerged_rows (s : State) (qs : List (List Notice)) :
    (s.createMerged qs).rows = s.rows :=
  State.createMerged_view (·.rows) (fun s n => s.createNotice_rows n) (fun _ _ => rfl) qs s
@[simp] theorem State.createNotice_pending (s : State) (n : Notice) :
    (s.createNotice n).pending = s.pending := by
  rcases s.createNotice_cases n with ⟨_, h⟩ | ⟨_, h⟩ <;> rw [h] <;> rfl
@[simp] theorem State.createAll_pending (s : State) (ns : List Notice) :
    (s.createAll ns).pending = s.pending :=
  State.createAll_view (·.pending) (fun s n => s.createNotice_pending n) ns s
@[simp] theorem State.createMerged_pending (s : State) (qs : List (List Notice)) :
    (s.createMerged qs).pending = s.pending :=
  State.createMerged_view (·.pending) (fun s n => s.createNotice_pending n) (fun _ _ => rfl) qs s
@[simp] theorem State.createNotice_items (s : State) (n : Notice) :
    (s.createNotice n).items = s.items := by
  rcases s.createNotice_cases n with ⟨_, h⟩ | ⟨_, h⟩ <;> rw [h] <;> rfl
@[simp] theorem State.createAll_items (s : State) (ns : List Notice) :
    (s.createAll ns).items = s.items :=
  State.createAll_view (·.items) (fun s n => s.createNotice_items n) ns s
@[simp] theorem State.createMerged_items (s : State) (qs : List (List Notice)) :
    (s.createMerged qs).items = s.items :=
  State.createMerged_view (·.items) (fun s n => s.createNotice_items n) (fun _ _ => rfl) qs s
@[simp] theorem State.createNotice_out_queue (s : State) (n : Notice) :
    (s.createNotice n).out.queue = s.out.queue := by
  rcases s.createNotice_cases n with ⟨_, h⟩ | ⟨_, h⟩ <;> rw [h] <;> rfl
@[simp] theorem State.createAll_out_queue (s : State) (ns : List Notice) :
    (s.createAll ns).out.queue = s.out.queue :=
  State.createAll_view (·.out.queue) (fun s n => s.createNotice_out_queue n) ns s
@[simp] theorem State.createMerged_out_queue (s : State) (qs : List (List Notice)) :
    (s.createMerged qs).out.queue = s.out.queue :=
  State.createMerged_view (·.out.queue) (fun s n => s.createNotice_out_queue n) (fun _ _ => rfl) qs s
@[simp] theorem State.createNotice_out_controlHeld (s : State) (n : Notice) :
    (s.createNotice n).out.controlHeld = s.out.controlHeld := by
  rcases s.createNotice_cases n with ⟨_, h⟩ | ⟨_, h⟩ <;> rw [h] <;> rfl
@[simp] theorem State.createAll_out_controlHeld (s : State) (ns : List Notice) :
    (s.createAll ns).out.controlHeld = s.out.controlHeld :=
  State.createAll_view (·.out.controlHeld) (fun s n => s.createNotice_out_controlHeld n) ns s
@[simp] theorem State.createMerged_out_controlHeld (s : State) (qs : List (List Notice)) :
    (s.createMerged qs).out.controlHeld = s.out.controlHeld :=
  State.createMerged_view (·.out.controlHeld) (fun s n => s.createNotice_out_controlHeld n) (fun _ _ => rfl) qs s
@[simp] theorem State.createNotice_out_rowsHeld (s : State) (n : Notice) :
    (s.createNotice n).out.rowsHeld = s.out.rowsHeld := by
  rcases s.createNotice_cases n with ⟨_, h⟩ | ⟨_, h⟩ <;> rw [h] <;> rfl
@[simp] theorem State.createAll_out_rowsHeld (s : State) (ns : List Notice) :
    (s.createAll ns).out.rowsHeld = s.out.rowsHeld :=
  State.createAll_view (·.out.rowsHeld) (fun s n => s.createNotice_out_rowsHeld n) ns s
@[simp] theorem State.createMerged_out_rowsHeld (s : State) (qs : List (List Notice)) :
    (s.createMerged qs).out.rowsHeld = s.out.rowsHeld :=
  State.createMerged_view (·.out.rowsHeld) (fun s n => s.createNotice_out_rowsHeld n) (fun _ _ => rfl) qs s
@[simp] theorem State.createNotice_out_pixelsHeld (s : State) (n : Notice) :
    (s.createNotice n).out.pixelsHeld = s.out.pixelsHeld := by
  rcases s.createNotice_cases n with ⟨_, h⟩ | ⟨_, h⟩ <;> rw [h] <;> rfl
@[simp] theorem State.createAll_out_pixelsHeld (s : State) (ns : List Notice) :
    (s.createAll ns).out.pixelsHeld = s.out.pixelsHeld :=
  State.createAll_view (·.out.pixelsHeld) (fun s n => s.createNotice_out_pixelsHeld n) ns s
@[simp] theorem State.createMerged_out_pixelsHeld (s : State) (qs : List (List Notice)) :
    (s.createMerged qs).out.pixelsHeld = s.out.pixelsHeld :=
  State.createMerged_view (·.out.pixelsHeld) (fun s n => s.createNotice_out_pixelsHeld n) (fun _ _ => rfl) qs s
@[simp] theorem State.createNotice_out_position (s : State) (n : Notice) :
    (s.createNotice n).out.position = s.out.position := by
  rcases s.createNotice_cases n with ⟨_, h⟩ | ⟨_, h⟩ <;> rw [h] <;> rfl
@[simp] theorem State.createAll_out_position (s : State) (ns : List Notice) :
    (s.createAll ns).out.position = s.out.position :=
  State.createAll_view (·.out.position) (fun s n => s.createNotice_out_position n) ns s
@[simp] theorem State.createMerged_out_position (s : State) (qs : List (List Notice)) :
    (s.createMerged qs).out.position = s.out.position :=
  State.createMerged_view (·.out.position) (fun s n => s.createNotice_out_position n) (fun _ _ => rfl) qs s
@[simp] theorem State.createNotice_out_admission (s : State) (n : Notice) :
    (s.createNotice n).out.admission = s.out.admission := by
  rcases s.createNotice_cases n with ⟨_, h⟩ | ⟨_, h⟩ <;> rw [h] <;> rfl
@[simp] theorem State.createAll_out_admission (s : State) (ns : List Notice) :
    (s.createAll ns).out.admission = s.out.admission :=
  State.createAll_view (·.out.admission) (fun s n => s.createNotice_out_admission n) ns s
@[simp] theorem State.createMerged_out_admission (s : State) (qs : List (List Notice)) :
    (s.createMerged qs).out.admission = s.out.admission :=
  State.createMerged_view (·.out.admission) (fun s n => s.createNotice_out_admission n) (fun _ _ => rfl) qs s
@[simp] theorem State.createNotice_out_delivered (s : State) (n : Notice) :
    (s.createNotice n).out.delivered = s.out.delivered := by
  rcases s.createNotice_cases n with ⟨_, h⟩ | ⟨_, h⟩ <;> rw [h] <;> rfl
@[simp] theorem State.createAll_out_delivered (s : State) (ns : List Notice) :
    (s.createAll ns).out.delivered = s.out.delivered :=
  State.createAll_view (·.out.delivered) (fun s n => s.createNotice_out_delivered n) ns s
@[simp] theorem State.createMerged_out_delivered (s : State) (qs : List (List Notice)) :
    (s.createMerged qs).out.delivered = s.out.delivered :=
  State.createMerged_view (·.out.delivered) (fun s n => s.createNotice_out_delivered n) (fun _ _ => rfl) qs s
@[simp] theorem State.createNotice_out_dropped (s : State) (n : Notice) :
    (s.createNotice n).out.dropped = s.out.dropped := by
  rcases s.createNotice_cases n with ⟨_, h⟩ | ⟨_, h⟩ <;> rw [h] <;> rfl
@[simp] theorem State.createAll_out_dropped (s : State) (ns : List Notice) :
    (s.createAll ns).out.dropped = s.out.dropped :=
  State.createAll_view (·.out.dropped) (fun s n => s.createNotice_out_dropped n) ns s
@[simp] theorem State.createMerged_out_dropped (s : State) (qs : List (List Notice)) :
    (s.createMerged qs).out.dropped = s.out.dropped :=
  State.createMerged_view (·.out.dropped) (fun s n => s.createNotice_out_dropped n) (fun _ _ => rfl) qs s
@[simp] theorem State.createNotice_out_skip (s : State) (n : Notice) :
    (s.createNotice n).out.skip = s.out.skip := by
  rcases s.createNotice_cases n with ⟨_, h⟩ | ⟨_, h⟩ <;> rw [h] <;> rfl
@[simp] theorem State.createAll_out_skip (s : State) (ns : List Notice) :
    (s.createAll ns).out.skip = s.out.skip :=
  State.createAll_view (·.out.skip) (fun s n => s.createNotice_out_skip n) ns s
@[simp] theorem State.createMerged_out_skip (s : State) (qs : List (List Notice)) :
    (s.createMerged qs).out.skip = s.out.skip :=
  State.createMerged_view (·.out.skip) (fun s n => s.createNotice_out_skip n) (fun _ _ => rfl) qs s
@[simp] theorem State.createNotice_out_accepted (s : State) (n : Notice) :
    (s.createNotice n).out.accepted = s.out.accepted := by
  rcases s.createNotice_cases n with ⟨_, h⟩ | ⟨_, h⟩ <;> rw [h] <;> rfl
@[simp] theorem State.createAll_out_accepted (s : State) (ns : List Notice) :
    (s.createAll ns).out.accepted = s.out.accepted :=
  State.createAll_view (·.out.accepted) (fun s n => s.createNotice_out_accepted n) ns s
@[simp] theorem State.createMerged_out_accepted (s : State) (qs : List (List Notice)) :
    (s.createMerged qs).out.accepted = s.out.accepted :=
  State.createMerged_view (·.out.accepted) (fun s n => s.createNotice_out_accepted n) (fun _ _ => rfl) qs s
@[simp] theorem State.createNotice_port_mode (s : State) (n : Notice) :
    (s.createNotice n).port.mode = s.port.mode := by
  rcases s.createNotice_cases n with ⟨_, h⟩ | ⟨_, h⟩ <;> rw [h] <;> rfl
@[simp] theorem State.createAll_port_mode (s : State) (ns : List Notice) :
    (s.createAll ns).port.mode = s.port.mode :=
  State.createAll_view (·.port.mode) (fun s n => s.createNotice_port_mode n) ns s
@[simp] theorem State.createMerged_port_mode (s : State) (qs : List (List Notice)) :
    (s.createMerged qs).port.mode = s.port.mode :=
  State.createMerged_view (·.port.mode) (fun s n => s.createNotice_port_mode n) (fun _ _ => rfl) qs s
@[simp] theorem State.createNotice_port_result (s : State) (n : Notice) :
    (s.createNotice n).port.result = s.port.result := by
  rcases s.createNotice_cases n with ⟨_, h⟩ | ⟨_, h⟩ <;> rw [h] <;> rfl
@[simp] theorem State.createAll_port_result (s : State) (ns : List Notice) :
    (s.createAll ns).port.result = s.port.result :=
  State.createAll_view (·.port.result) (fun s n => s.createNotice_port_result n) ns s
@[simp] theorem State.createMerged_port_result (s : State) (qs : List (List Notice)) :
    (s.createMerged qs).port.result = s.port.result :=
  State.createMerged_view (·.port.result) (fun s n => s.createNotice_port_result n) (fun _ _ => rfl) qs s
@[simp] theorem State.createNotice_port_startError (s : State) (n : Notice) :
    (s.createNotice n).port.startError = s.port.startError := by
  rcases s.createNotice_cases n with ⟨_, h⟩ | ⟨_, h⟩ <;> rw [h] <;> rfl
@[simp] theorem State.createAll_port_startError (s : State) (ns : List Notice) :
    (s.createAll ns).port.startError = s.port.startError :=
  State.createAll_view (·.port.startError) (fun s n => s.createNotice_port_startError n) ns s
@[simp] theorem State.createMerged_port_startError (s : State) (qs : List (List Notice)) :
    (s.createMerged qs).port.startError = s.port.startError :=
  State.createMerged_view (·.port.startError) (fun s n => s.createNotice_port_startError n) (fun _ _ => rfl) qs s
@[simp] theorem State.createNotice_port_items (s : State) (n : Notice) :
    (s.createNotice n).port.items = s.port.items := by
  rcases s.createNotice_cases n with ⟨_, h⟩ | ⟨_, h⟩ <;> rw [h] <;> rfl
@[simp] theorem State.createAll_port_items (s : State) (ns : List Notice) :
    (s.createAll ns).port.items = s.port.items :=
  State.createAll_view (·.port.items) (fun s n => s.createNotice_port_items n) ns s
@[simp] theorem State.createMerged_port_items (s : State) (qs : List (List Notice)) :
    (s.createMerged qs).port.items = s.port.items :=
  State.createMerged_view (·.port.items) (fun s n => s.createNotice_port_items n) (fun _ _ => rfl) qs s

/-- The notice list never grows past its capacity (R151). -/
theorem State.createNotice_length (s : State) (n : Notice)
    (h : s.out.notices.length ≤ noticeCapacity) :
    (s.createNotice n).out.notices.length ≤ noticeCapacity := by
  rcases s.createNotice_cases n with ⟨hl, e⟩ | ⟨_, e⟩ <;> rw [e]
  · simpa using hl
  · simpa using h

theorem State.createAll_length (ns : List Notice) (s : State)
    (h : s.out.notices.length ≤ noticeCapacity) :
    (s.createAll ns).out.notices.length ≤ noticeCapacity := by
  induction ns generalizing s with
  | nil => exact h
  | cons n ns ih => exact ih (s.createNotice n) (s.createNotice_length n h)

theorem State.createMerged_length (qs : List (List Notice)) (s : State)
    (h : s.out.notices.length ≤ noticeCapacity) :
    (s.createMerged qs).out.notices.length ≤ noticeCapacity :=
  State.createAll_length _ _ h

/-- Notices that all fit are appended in order (R150). -/
theorem State.createAll_notices (ns : List Notice) (s : State)
    (h : s.out.notices.length + ns.length ≤ noticeCapacity) :
    (s.createAll ns).out.notices = s.out.notices ++ ns := by
  induction ns generalizing s with
  | nil => simp [State.createAll]
  | cons n ns ih =>
    have hl : s.out.notices.length < noticeCapacity := by simp at h; omega
    have hn : (s.createNotice n).out.notices = s.out.notices ++ [n] := by
      rcases s.createNotice_cases n with ⟨_, e⟩ | ⟨h', _⟩
      · rw [e]; rfl
      · omega
    show ((s.createNotice n).createAll ns).out.notices = _
    rw [ih (s.createNotice n) (by rw [hn]; simp at h ⊢; omega), hn]
    simp

/-- Every creation sets the attention flag (R150). -/
theorem State.createNotice_attention (s : State) (n : Notice) :
    (s.createNotice n).port.attention = true := by
  rcases s.createNotice_cases n with ⟨_, e⟩ | ⟨_, e⟩ <;> rw [e] <;> rfl

/-- The attention flag is set if any notice is created, and else as it was (R150). -/
theorem State.createAll_attention (ns : List Notice) (s : State) :
    (s.createAll ns).port.attention = (s.port.attention || !ns.isEmpty) := by
  induction ns generalizing s with
  | nil => simp [State.createAll]
  | cons n ns ih =>
    show ((s.createNotice n).createAll ns).port.attention = _
    rw [ih, State.createNotice_attention]; simp

/-! ### The order of notices of one event -/

/-- One queue alone keeps its order, and no free value is used. -/
theorem mergeNotices_single (q : List Notice) (used : Nat) :
    mergeNotices q.length used [q] = (q, used) := by
  cases q with
  | nil => rfl
  | cons n q => rfl

/-- Taking from a queue keeps all notices together. -/
theorem takeFrom_perm {k : Nat} {qs rest : List (List Notice)} {n : Notice}
    (h : takeFrom k qs = some (n, rest)) : List.Perm qs.flatten (n :: rest.flatten) := by
  induction qs generalizing k rest with
  | nil => cases k <;> simp [takeFrom] at h
  | cons q qs ih =>
    cases k with
    | zero =>
      cases q with
      | nil => simp [takeFrom] at h
      | cons m q =>
        simp only [takeFrom, Option.some.injEq, Prod.mk.injEq] at h
        obtain ⟨rfl, rfl⟩ := h
        simp
    | succ k =>
      simp only [takeFrom, Option.map_eq_some_iff, Prod.exists, Prod.mk.injEq] at h
      obtain ⟨m, r, hr, rfl, rfl⟩ := h
      have hp := (ih hr).append_left q
      simp only [List.flatten_cons]
      exact hp.trans List.perm_middle

/-- A queue that is not empty can be taken from. -/
theorem takeFrom_isSome {k : Nat} {qs : List (List Notice)} (hk : k < qs.length)
    (hq : ∀ q ∈ qs, q ≠ []) : (takeFrom k qs).isSome := by
  induction qs generalizing k with
  | nil => simp at hk
  | cons q qs ih =>
    cases k with
    | zero =>
      cases q with
      | nil => simp at hq
      | cons n q => simp [takeFrom]
    | succ k =>
      have := ih (k := k) (by simpa using hk) (fun x hx => hq x (by simp [hx]))
      simpa [takeFrom] using this

/-- Empty queues hold no notices. -/
theorem flatten_filter_nonempty (qs : List (List Notice)) :
    (qs.filter fun q => !q.isEmpty).flatten = qs.flatten := by
  induction qs with
  | nil => rfl
  | cons q qs ih => cases q <;> simp [ih]

/-- Whatever the order, exactly the notices of all the queues enter the list (R150). -/
theorem mergeNotices_perm (fuel used : Nat) (qs : List (List Notice))
    (h : qs.flatten.length ≤ fuel) : List.Perm (mergeNotices fuel used qs).1 qs.flatten := by
  induction fuel generalizing used qs with
  | zero =>
    have : qs.flatten = [] := List.eq_nil_of_length_eq_zero (by omega)
    simp [mergeNotices, this]
  | succ fuel ih =>
    unfold mergeNotices
    have hf := flatten_filter_nonempty qs
    split
    · rename_i e; rw [e] at hf; simp [← hf]
    · rename_i q e; rw [e] at hf; simp [← hf]
    · rename_i q0 q1 rest e
      have hne : ∀ q ∈ q0 :: q1 :: rest, q ≠ [] := by
        intro q hq; rw [← e] at hq; simp at hq; simpa using hq.2
      have hk := takeFrom_isSome
        (k := Config.freeBlock used % (q0 :: q1 :: rest).length) (Nat.mod_lt _ (by simp)) hne
      obtain ⟨⟨n, r⟩, hr⟩ := Option.isSome_iff_exists.mp hk
      have hp := takeFrom_perm hr
      rw [e] at hf
      simp only [hr]
      rw [← hf]
      refine List.Perm.trans (List.Perm.cons n (ih (used + 1) r ?_)) hp.symm
      have := hp.length_eq
      rw [hf] at this; simp at this; simp at h ⊢; omega

/-- The attention flag after the notices of one event (R150). -/
theorem State.createMerged_attention (qs : List (List Notice)) (s : State) :
    (s.createMerged qs).port.attention = (s.port.attention || !qs.flatten.isEmpty) := by
  unfold State.createMerged
  simp only [State.createAll_attention, State.withFreeCount_port]
  have := (mergeNotices_perm qs.flatten.length s.freeCount qs le_rfl).isEmpty_eq
  rw [this]

/-- The notices of one block alone enter the list in that block's order (R150). -/
theorem State.createMerged_single (q : List Notice) (s : State) :
    s.createMerged [q] = s.createAll q := by
  have h : ([q] : List (List Notice)).flatten.length = q.length := by simp
  unfold State.createMerged
  rw [h, mergeNotices_single]; rfl

/-! ### The hold on MARK and the station state -/

@[simp] theorem State.holdMark_round (s : State) (j : Option Level) : (s.holdMark j).round = s.round := by
  unfold State.holdMark; split <;> rfl
@[simp] theorem State.holdMark_station (s : State) (j : Option Level) : (s.holdMark j).station = s.station := by
  unfold State.holdMark; split <;> rfl
@[simp] theorem State.holdMark_timer (s : State) (j : Option Level) : (s.holdMark j).timer = s.timer := by
  unfold State.holdMark; split <;> rfl
@[simp] theorem State.holdMark_roster (s : State) (j : Option Level) : (s.holdMark j).roster = s.roster := by
  unfold State.holdMark; split <;> rfl
@[simp] theorem State.holdMark_agree (s : State) (j : Option Level) : (s.holdMark j).agree = s.agree := by
  unfold State.holdMark; split <;> rfl
@[simp] theorem State.holdMark_schedule (s : State) (j : Option Level) : (s.holdMark j).schedule = s.schedule := by
  unfold State.holdMark; split <;> rfl
@[simp] theorem State.holdMark_meter (s : State) (j : Option Level) : (s.holdMark j).meter = s.meter := by
  unfold State.holdMark; split <;> rfl
@[simp] theorem State.holdMark_rows (s : State) (j : Option Level) : (s.holdMark j).rows = s.rows := by
  unfold State.holdMark; split <;> rfl
@[simp] theorem State.holdMark_out (s : State) (j : Option Level) : (s.holdMark j).out = s.out := by
  unfold State.holdMark; split <;> rfl
@[simp] theorem State.holdMark_port (s : State) (j : Option Level) : (s.holdMark j).port = s.port := by
  unfold State.holdMark; split <;> rfl
@[simp] theorem State.holdMark_freeCount (s : State) (j : Option Level) : (s.holdMark j).freeCount = s.freeCount := by
  unfold State.holdMark; split <;> rfl
@[simp] theorem State.holdMark_pending (s : State) (j : Option Level) : (s.holdMark j).pending = s.pending := by
  unfold State.holdMark; split <;> rfl
@[simp] theorem State.holdMark_items (s : State) (j : Option Level) : (s.holdMark j).items = s.items := by
  unfold State.holdMark; split <;> rfl

@[simp] theorem State.moveStation_round (s : State) (d : StationState) :
    (s.moveStation d).round = s.round := rfl
@[simp] theorem State.moveStation_timer (s : State) (d : StationState) :
    (s.moveStation d).timer = s.timer := rfl
@[simp] theorem State.moveStation_roster (s : State) (d : StationState) :
    (s.moveStation d).roster = s.roster := rfl
@[simp] theorem State.moveStation_agree (s : State) (d : StationState) :
    (s.moveStation d).agree = s.agree := rfl
@[simp] theorem State.moveStation_schedule (s : State) (d : StationState) :
    (s.moveStation d).schedule = s.schedule := rfl
@[simp] theorem State.moveStation_meter (s : State) (d : StationState) :
    (s.moveStation d).meter = s.meter := rfl
@[simp] theorem State.moveStation_rows (s : State) (d : StationState) :
    (s.moveStation d).rows = s.rows := rfl
@[simp] theorem State.moveStation_out (s : State) (d : StationState) :
    (s.moveStation d).out = s.out := rfl
@[simp] theorem State.moveStation_port (s : State) (d : StationState) :
    (s.moveStation d).port = s.port := rfl
@[simp] theorem State.moveStation_freeCount (s : State) (d : StationState) :
    (s.moveStation d).freeCount = s.freeCount := rfl
@[simp] theorem State.moveStation_pending (s : State) (d : StationState) :
    (s.moveStation d).pending = s.pending := rfl
@[simp] theorem State.moveStation_items (s : State) (d : StationState) :
    (s.moveStation d).items = s.items := rfl
@[simp] theorem State.moveStation_station (s : State) (d : StationState) :
    (s.moveStation d).station = s.station.enter d := rfl
@[simp] theorem State.moveStation_line (s : State) (d : StationState) :
    (s.moveStation d).line = s.line.follow s.station.state d := rfl
@[simp] theorem StationController.enter_state (c : StationController) (d : StationState) :
    (c.enter d).state = d := rfl
@[simp] theorem StationController.enter_joinCount (c : StationController) (d : StationState) :
    (c.enter d).joinCount = 0 := rfl
@[simp] theorem StationController.enter_voidCount (c : StationController) (d : StationState) :
    (c.enter d).voidCount = 0 := rfl

@[simp] theorem TallyInterface.releaseMark_markDrive (l : TallyInterface) :
    l.releaseMark.markDrive = .released := by
  unfold TallyInterface.releaseMark; split <;> simp_all
@[simp] theorem TallyInterface.releaseMark_tallyDrive (l : TallyInterface) :
    l.releaseMark.tallyDrive = l.tallyDrive := by
  unfold TallyInterface.releaseMark; split <;> rfl
@[simp] theorem TallyInterface.dropJoinHold_markDrive (l : TallyInterface) :
    l.dropJoinHold.markDrive = .released := by simp [TallyInterface.dropJoinHold]
@[simp] theorem TallyInterface.dropJoinHold_referenceAtJoin (l : TallyInterface) :
    l.dropJoinHold.referenceAtJoin = none := rfl
@[simp] theorem TallyInterface.releaseBoth_markDrive (l : TallyInterface) :
    l.releaseBoth.markDrive = .released := by simp [TallyInterface.releaseBoth]
@[simp] theorem TallyInterface.releaseBoth_tallyDrive (l : TallyInterface) :
    l.releaseBoth.tallyDrive = .released := by simp [TallyInterface.releaseBoth]

end Sys2Proof.Machine
end

