-- ==== Sys2Proof/Laws/Frame.lean ====
section
/-! SUPPORT. What each shared operation of the frames, the rounds, the marks and the stream leaves
unchanged, field by field, for simp. -/

namespace Sys2Proof.Machine

variable (s : State)

/-! ### rowFault -/

@[simp] theorem State.rowFault_line : (s.rowFault).line = s.line := rfl
@[simp] theorem State.rowFault_round : (s.rowFault).round = s.round := rfl
@[simp] theorem State.rowFault_station : (s.rowFault).station = s.station := rfl
@[simp] theorem State.rowFault_timer : (s.rowFault).timer = s.timer := rfl
@[simp] theorem State.rowFault_roster : (s.rowFault).roster = s.roster := rfl
@[simp] theorem State.rowFault_agree : (s.rowFault).agree = s.agree := rfl
@[simp] theorem State.rowFault_schedule : (s.rowFault).schedule = s.schedule := rfl
@[simp] theorem State.rowFault_meter : (s.rowFault).meter = s.meter := rfl
@[simp] theorem State.rowFault_out : (s.rowFault).out = s.out := rfl
@[simp] theorem State.rowFault_freeCount : (s.rowFault).freeCount = s.freeCount := rfl
@[simp] theorem State.rowFault_pending : (s.rowFault).pending = s.pending := rfl
@[simp] theorem State.rowFault_port_mode : (s.rowFault).port.mode = s.port.mode := rfl
@[simp] theorem State.rowFault_port_items : (s.rowFault).port.items = s.port.items := rfl
@[simp] theorem State.rowFault_port_result : (s.rowFault).port.result = s.port.result := rfl
@[simp] theorem State.rowFault_port_startError :
    (s.rowFault).port.startError = s.port.startError := rfl
@[simp] theorem State.rowFault_port_attention : (s.rowFault).port.attention = s.port.attention := rfl
@[simp] theorem State.rowFault_port_transaction :
    (s.rowFault).port.transaction = s.port.transaction := rfl
@[simp] theorem State.rowFault_items : (s.rowFault).items = s.items := rfl

/-! ### takeDeadline -/

@[simp] theorem State.takeDeadline_line (k : Nat) : (s.takeDeadline k).line = s.line := by
  unfold State.takeDeadline; repeat' split
  all_goals rfl
@[simp] theorem State.takeDeadline_round (k : Nat) : (s.takeDeadline k).round = s.round := by
  unfold State.takeDeadline; repeat' split
  all_goals rfl
@[simp] theorem State.takeDeadline_station (k : Nat) : (s.takeDeadline k).station = s.station := by
  unfold State.takeDeadline; repeat' split
  all_goals rfl
@[simp] theorem State.takeDeadline_timer (k : Nat) : (s.takeDeadline k).timer = s.timer := by
  unfold State.takeDeadline; repeat' split
  all_goals rfl
@[simp] theorem State.takeDeadline_roster (k : Nat) : (s.takeDeadline k).roster = s.roster := by
  unfold State.takeDeadline; repeat' split
  all_goals rfl
@[simp] theorem State.takeDeadline_agree (k : Nat) : (s.takeDeadline k).agree = s.agree := by
  unfold State.takeDeadline; repeat' split
  all_goals rfl
@[simp] theorem State.takeDeadline_schedule (k : Nat) :
    (s.takeDeadline k).schedule = s.schedule := by
  unfold State.takeDeadline; repeat' split
  all_goals rfl
@[simp] theorem State.takeDeadline_meter (k : Nat) : (s.takeDeadline k).meter = s.meter := by
  unfold State.takeDeadline; repeat' split
  all_goals rfl
@[simp] theorem State.takeDeadline_out (k : Nat) : (s.takeDeadline k).out = s.out := by
  unfold State.takeDeadline; repeat' split
  all_goals rfl
@[simp] theorem State.takeDeadline_freeCount (k : Nat) :
    (s.takeDeadline k).freeCount = s.freeCount := by
  unfold State.takeDeadline; repeat' split
  all_goals rfl
@[simp] theorem State.takeDeadline_pending (k : Nat) : (s.takeDeadline k).pending = s.pending := by
  unfold State.takeDeadline; repeat' split
  all_goals rfl
@[simp] theorem State.takeDeadline_port_mode (k : Nat) :
    (s.takeDeadline k).port.mode = s.port.mode := by
  unfold State.takeDeadline; repeat' split
  all_goals rfl
@[simp] theorem State.takeDeadline_port_items (k : Nat) :
    (s.takeDeadline k).port.items = s.port.items := by
  unfold State.takeDeadline; repeat' split
  all_goals rfl
@[simp] theorem State.takeDeadline_port_result (k : Nat) :
    (s.takeDeadline k).port.result = s.port.result := by
  unfold State.takeDeadline; repeat' split
  all_goals rfl
@[simp] theorem State.takeDeadline_port_startError (k : Nat) :
    (s.takeDeadline k).port.startError = s.port.startError := by
  unfold State.takeDeadline; repeat' split
  all_goals rfl
@[simp] theorem State.takeDeadline_port_attention (k : Nat) :
    (s.takeDeadline k).port.attention = s.port.attention := by
  unfold State.takeDeadline; repeat' split
  all_goals rfl
@[simp] theorem State.takeDeadline_port_transaction (k : Nat) :
    (s.takeDeadline k).port.transaction = s.port.transaction := by
  unfold State.takeDeadline; repeat' split
  all_goals rfl
@[simp] theorem State.takeDeadline_items (k : Nat) : (s.takeDeadline k).items = s.items := by
  unfold State.takeDeadline; repeat' split
  all_goals rfl

/-! ### offerHead -/

@[simp] theorem State.offerHead_line (e : Entry) : (s.offerHead e).line = s.line := by
  unfold State.offerHead; dsimp only; repeat' split
  all_goals rfl
@[simp] theorem State.offerHead_round (e : Entry) : (s.offerHead e).round = s.round := by
  unfold State.offerHead; dsimp only; repeat' split
  all_goals rfl
@[simp] theorem State.offerHead_station (e : Entry) : (s.offerHead e).station = s.station := by
  unfold State.offerHead; dsimp only; repeat' split
  all_goals rfl
@[simp] theorem State.offerHead_timer (e : Entry) : (s.offerHead e).timer = s.timer := by
  unfold State.offerHead; dsimp only; repeat' split
  all_goals rfl
@[simp] theorem State.offerHead_roster (e : Entry) : (s.offerHead e).roster = s.roster := by
  unfold State.offerHead; dsimp only; repeat' split
  all_goals rfl
@[simp] theorem State.offerHead_agree (e : Entry) : (s.offerHead e).agree = s.agree := by
  unfold State.offerHead; dsimp only; repeat' split
  all_goals rfl
@[simp] theorem State.offerHead_schedule (e : Entry) : (s.offerHead e).schedule = s.schedule := by
  unfold State.offerHead; dsimp only; repeat' split
  all_goals rfl
@[simp] theorem State.offerHead_meter (e : Entry) : (s.offerHead e).meter = s.meter := by
  unfold State.offerHead; dsimp only; repeat' split
  all_goals rfl
@[simp] theorem State.offerHead_rows (e : Entry) : (s.offerHead e).rows = s.rows := by
  unfold State.offerHead; dsimp only; repeat' split
  all_goals rfl
@[simp] theorem State.offerHead_freeCount (e : Entry) :
    (s.offerHead e).freeCount = s.freeCount := by
  unfold State.offerHead; dsimp only; repeat' split
  all_goals rfl
@[simp] theorem State.offerHead_pending (e : Entry) : (s.offerHead e).pending = s.pending := by
  unfold State.offerHead; dsimp only; repeat' split
  all_goals rfl
@[simp] theorem State.offerHead_port_mode (e : Entry) :
    (s.offerHead e).port.mode = s.port.mode := by
  unfold State.offerHead; dsimp only; repeat' split
  all_goals rfl
@[simp] theorem State.offerHead_port_items (e : Entry) :
    (s.offerHead e).port.items = s.port.items := by
  unfold State.offerHead; dsimp only; repeat' split
  all_goals rfl
@[simp] theorem State.offerHead_port_result (e : Entry) :
    (s.offerHead e).port.result = s.port.result := by
  unfold State.offerHead; dsimp only; repeat' split
  all_goals rfl
@[simp] theorem State.offerHead_port_startError (e : Entry) :
    (s.offerHead e).port.startError = s.port.startError := by
  unfold State.offerHead; dsimp only; repeat' split
  all_goals rfl
@[simp] theorem State.offerHead_port_attention (e : Entry) :
    (s.offerHead e).port.attention = s.port.attention := by
  unfold State.offerHead; dsimp only; repeat' split
  all_goals rfl
@[simp] theorem State.offerHead_port_transaction (e : Entry) :
    (s.offerHead e).port.transaction = s.port.transaction := by
  unfold State.offerHead; dsimp only; repeat' split
  all_goals rfl
@[simp] theorem State.offerHead_out_notices (e : Entry) :
    (s.offerHead e).out.notices = s.out.notices := by
  unfold State.offerHead; dsimp only; repeat' split
  all_goals rfl
@[simp] theorem State.offerHead_out_lost (e : Entry) : (s.offerHead e).out.lost = s.out.lost := by
  unfold State.offerHead; dsimp only; repeat' split
  all_goals rfl
@[simp] theorem State.offerHead_out_accepted (e : Entry) :
    (s.offerHead e).out.accepted = s.out.accepted := by
  unfold State.offerHead; dsimp only; repeat' split
  all_goals rfl
@[simp] theorem State.offerHead_out_rowsHeld (e : Entry) :
    (s.offerHead e).out.rowsHeld = s.out.rowsHeld := by
  unfold State.offerHead; dsimp only; repeat' split
  all_goals rfl
@[simp] theorem State.offerHead_out_pixelsHeld (e : Entry) :
    (s.offerHead e).out.pixelsHeld = s.out.pixelsHeld := by
  unfold State.offerHead; dsimp only; repeat' split
  all_goals rfl
@[simp] theorem State.offerHead_items (e : Entry) : (s.offerHead e).items = s.items := by
  unfold State.offerHead; dsimp only; repeat' split
  all_goals rfl

/-! ### offerRow -/

@[simp] theorem State.offerRow_line (row : Nat) (px : List Pixel) :
    (s.offerRow row px).line = s.line := by
  unfold State.offerRow; dsimp only; repeat' split
  all_goals rfl
@[simp] theorem State.offerRow_round (row : Nat) (px : List Pixel) :
    (s.offerRow row px).round = s.round := by
  unfold State.offerRow; dsimp only; repeat' split
  all_goals rfl
@[simp] theorem State.offerRow_station (row : Nat) (px : List Pixel) :
    (s.offerRow row px).station = s.station := by
  unfold State.offerRow; dsimp only; repeat' split
  all_goals rfl
@[simp] theorem State.offerRow_timer (row : Nat) (px : List Pixel) :
    (s.offerRow row px).timer = s.timer := by
  unfold State.offerRow; dsimp only; repeat' split
  all_goals rfl
@[simp] theorem State.offerRow_roster (row : Nat) (px : List Pixel) :
    (s.offerRow row px).roster = s.roster := by
  unfold State.offerRow; dsimp only; repeat' split
  all_goals rfl
@[simp] theorem State.offerRow_agree (row : Nat) (px : List Pixel) :
    (s.offerRow row px).agree = s.agree := by
  unfold State.offerRow; dsimp only; repeat' split
  all_goals rfl
@[simp] theorem State.offerRow_schedule (row : Nat) (px : List Pixel) :
    (s.offerRow row px).schedule = s.schedule := by
  unfold State.offerRow; dsimp only; repeat' split
  all_goals rfl
@[simp] theorem State.offerRow_meter (row : Nat) (px : List Pixel) :
    (s.offerRow row px).meter = s.meter := by
  unfold State.offerRow; dsimp only; repeat' split
  all_goals rfl
@[simp] theorem State.offerRow_rows (row : Nat) (px : List Pixel) :
    (s.offerRow row px).rows = s.rows := by
  unfold State.offerRow; dsimp only; repeat' split
  all_goals rfl
@[simp] theorem State.offerRow_freeCount (row : Nat) (px : List Pixel) :
    (s.offerRow row px).freeCount = s.freeCount := by
  unfold State.offerRow; dsimp only; repeat' split
  all_goals rfl
@[simp] theorem State.offerRow_pending (row : Nat) (px : List Pixel) :
    (s.offerRow row px).pending = s.pending := by
  unfold State.offerRow; dsimp only; repeat' split
  all_goals rfl
@[simp] theorem State.offerRow_port_mode (row : Nat) (px : List Pixel) :
    (s.offerRow row px).port.mode = s.port.mode := by
  unfold State.offerRow; dsimp only; repeat' split
  all_goals rfl
@[simp] theorem State.offerRow_port_items (row : Nat) (px : List Pixel) :
    (s.offerRow row px).port.items = s.port.items := by
  unfold State.offerRow; dsimp only; repeat' split
  all_goals rfl
@[simp] theorem State.offerRow_port_result (row : Nat) (px : List Pixel) :
    (s.offerRow row px).port.result = s.port.result := by
  unfold State.offerRow; dsimp only; repeat' split
  all_goals rfl
@[simp] theorem State.offerRow_port_startError (row : Nat) (px : List Pixel) :
    (s.offerRow row px).port.startError = s.port.startError := by
  unfold State.offerRow; dsimp only; repeat' split
  all_goals rfl
@[simp] theorem State.offerRow_port_attention (row : Nat) (px : List Pixel) :
    (s.offerRow row px).port.attention = s.port.attention := by
  unfold State.offerRow; dsimp only; repeat' split
  all_goals rfl
@[simp] theorem State.offerRow_port_transaction (row : Nat) (px : List Pixel) :
    (s.offerRow row px).port.transaction = s.port.transaction := by
  unfold State.offerRow; dsimp only; repeat' split
  all_goals rfl
@[simp] theorem State.offerRow_out_notices (row : Nat) (px : List Pixel) :
    (s.offerRow row px).out.notices = s.out.notices := by
  unfold State.offerRow; dsimp only; repeat' split
  all_goals rfl
@[simp] theorem State.offerRow_out_lost (row : Nat) (px : List Pixel) :
    (s.offerRow row px).out.lost = s.out.lost := by
  unfold State.offerRow; dsimp only; repeat' split
  all_goals rfl
@[simp] theorem State.offerRow_out_accepted (row : Nat) (px : List Pixel) :
    (s.offerRow row px).out.accepted = s.out.accepted := by
  unfold State.offerRow; dsimp only; repeat' split
  all_goals rfl
@[simp] theorem State.offerRow_out_controlHeld (row : Nat) (px : List Pixel) :
    (s.offerRow row px).out.controlHeld = s.out.controlHeld := by
  unfold State.offerRow; dsimp only; repeat' split
  all_goals rfl
@[simp] theorem State.offerRow_out_position (row : Nat) (px : List Pixel) :
    (s.offerRow row px).out.position = s.out.position := by
  unfold State.offerRow; dsimp only; repeat' split
  all_goals rfl
@[simp] theorem State.offerRow_out_admission (row : Nat) (px : List Pixel) :
    (s.offerRow row px).out.admission = s.out.admission := by
  unfold State.offerRow; dsimp only; repeat' split
  all_goals rfl
@[simp] theorem State.offerRow_out_skip (row : Nat) (px : List Pixel) :
    (s.offerRow row px).out.skip = s.out.skip := by
  unfold State.offerRow; dsimp only; repeat' split
  all_goals rfl
@[simp] theorem State.offerRow_items (row : Nat) (px : List Pixel) :
    (s.offerRow row px).items = s.items := by
  unfold State.offerRow; dsimp only; repeat' split
  all_goals rfl

/-! ### offerTail -/

@[simp] theorem State.offerTail_line (cut stopped : Bool) :
    (s.offerTail cut stopped).line = s.line := by
  unfold State.offerTail; repeat' split
  all_goals rfl
@[simp] theorem State.offerTail_round (cut stopped : Bool) :
    (s.offerTail cut stopped).round = s.round := by
  unfold State.offerTail; repeat' split
  all_goals rfl
@[simp] theorem State.offerTail_station (cut stopped : Bool) :
    (s.offerTail cut stopped).station = s.station := by
  unfold State.offerTail; repeat' split
  all_goals rfl
@[simp] theorem State.offerTail_timer (cut stopped : Bool) :
    (s.offerTail cut stopped).timer = s.timer := by
  unfold State.offerTail; repeat' split
  all_goals rfl
@[simp] theorem State.offerTail_roster (cut stopped : Bool) :
    (s.offerTail cut stopped).roster = s.roster := by
  unfold State.offerTail; repeat' split
  all_goals rfl
@[simp] theorem State.offerTail_agree (cut stopped : Bool) :
    (s.offerTail cut stopped).agree = s.agree := by
  unfold State.offerTail; repeat' split
  all_goals rfl
@[simp] theorem State.offerTail_schedule (cut stopped : Bool) :
    (s.offerTail cut stopped).schedule = s.schedule := by
  unfold State.offerTail; repeat' split
  all_goals rfl
@[simp] theorem State.offerTail_meter (cut stopped : Bool) :
    (s.offerTail cut stopped).meter = s.meter := by
  unfold State.offerTail; repeat' split
  all_goals rfl
@[simp] theorem State.offerTail_port (cut stopped : Bool) :
    (s.offerTail cut stopped).port = s.port := by
  unfold State.offerTail; repeat' split
  all_goals rfl
@[simp] theorem State.offerTail_freeCount (cut stopped : Bool) :
    (s.offerTail cut stopped).freeCount = s.freeCount := by
  unfold State.offerTail; repeat' split
  all_goals rfl
@[simp] theorem State.offerTail_pending (cut stopped : Bool) :
    (s.offerTail cut stopped).pending = s.pending := by
  unfold State.offerTail; repeat' split
  all_goals rfl
@[simp] theorem State.offerTail_out_notices (cut stopped : Bool) :
    (s.offerTail cut stopped).out.notices = s.out.notices := by
  unfold State.offerTail; repeat' split
  all_goals rfl
@[simp] theorem State.offerTail_out_lost (cut stopped : Bool) :
    (s.offerTail cut stopped).out.lost = s.out.lost := by
  unfold State.offerTail; repeat' split
  all_goals rfl
@[simp] theorem State.offerTail_out_accepted (cut stopped : Bool) :
    (s.offerTail cut stopped).out.accepted = s.out.accepted := by
  unfold State.offerTail; repeat' split
  all_goals rfl
@[simp] theorem State.offerTail_out_controlHeld (cut stopped : Bool) :
    (s.offerTail cut stopped).out.controlHeld = s.out.controlHeld := by
  unfold State.offerTail; repeat' split
  all_goals rfl
@[simp] theorem State.offerTail_out_rowsHeld (cut stopped : Bool) :
    (s.offerTail cut stopped).out.rowsHeld = s.out.rowsHeld := by
  unfold State.offerTail; repeat' split
  all_goals rfl
@[simp] theorem State.offerTail_out_pixelsHeld (cut stopped : Bool) :
    (s.offerTail cut stopped).out.pixelsHeld = s.out.pixelsHeld := by
  unfold State.offerTail; repeat' split
  all_goals rfl
@[simp] theorem State.offerTail_out_delivered (cut stopped : Bool) :
    (s.offerTail cut stopped).out.delivered = s.out.delivered := by
  unfold State.offerTail; repeat' split
  all_goals rfl
@[simp] theorem State.offerTail_out_dropped (cut stopped : Bool) :
    (s.offerTail cut stopped).out.dropped = s.out.dropped := by
  unfold State.offerTail; repeat' split
  all_goals rfl
@[simp] theorem State.offerTail_out_skip (cut stopped : Bool) :
    (s.offerTail cut stopped).out.skip = s.out.skip := by
  unfold State.offerTail; repeat' split
  all_goals rfl
@[simp] theorem State.offerTail_items (cut stopped : Bool) :
    (s.offerTail cut stopped).items = s.items := by
  unfold State.offerTail; repeat' split
  all_goals rfl

/-! ### acceptRow -/

@[simp] theorem State.acceptRow_line (row : Nat) (px : List Pixel) :
    (s.acceptRow row px).line = s.line := by
  unfold State.acceptRow; repeat' split
  all_goals simp
@[simp] theorem State.acceptRow_round (row : Nat) (px : List Pixel) :
    (s.acceptRow row px).round = s.round := by
  unfold State.acceptRow; repeat' split
  all_goals simp
@[simp] theorem State.acceptRow_station (row : Nat) (px : List Pixel) :
    (s.acceptRow row px).station = s.station := by
  unfold State.acceptRow; repeat' split
  all_goals simp
@[simp] theorem State.acceptRow_timer (row : Nat) (px : List Pixel) :
    (s.acceptRow row px).timer = s.timer := by
  unfold State.acceptRow; repeat' split
  all_goals simp
@[simp] theorem State.acceptRow_roster (row : Nat) (px : List Pixel) :
    (s.acceptRow row px).roster = s.roster := by
  unfold State.acceptRow; repeat' split
  all_goals simp
@[simp] theorem State.acceptRow_agree (row : Nat) (px : List Pixel) :
    (s.acceptRow row px).agree = s.agree := by
  unfold State.acceptRow; repeat' split
  all_goals simp
@[simp] theorem State.acceptRow_schedule (row : Nat) (px : List Pixel) :
    (s.acceptRow row px).schedule = s.schedule := by
  unfold State.acceptRow; repeat' split
  all_goals simp
@[simp] theorem State.acceptRow_rows (row : Nat) (px : List Pixel) :
    (s.acceptRow row px).rows = s.rows := by
  unfold State.acceptRow; repeat' split
  all_goals simp
@[simp] theorem State.acceptRow_freeCount (row : Nat) (px : List Pixel) :
    (s.acceptRow row px).freeCount = s.freeCount := by
  unfold State.acceptRow; repeat' split
  all_goals simp
@[simp] theorem State.acceptRow_pending (row : Nat) (px : List Pixel) :
    (s.acceptRow row px).pending = s.pending := by
  unfold State.acceptRow; repeat' split
  all_goals simp
@[simp] theorem State.acceptRow_port_mode (row : Nat) (px : List Pixel) :
    (s.acceptRow row px).port.mode = s.port.mode := by
  unfold State.acceptRow; repeat' split
  all_goals simp
@[simp] theorem State.acceptRow_port_items (row : Nat) (px : List Pixel) :
    (s.acceptRow row px).port.items = s.port.items := by
  unfold State.acceptRow; repeat' split
  all_goals simp
@[simp] theorem State.acceptRow_port_result (row : Nat) (px : List Pixel) :
    (s.acceptRow row px).port.result = s.port.result := by
  unfold State.acceptRow; repeat' split
  all_goals simp
@[simp] theorem State.acceptRow_port_startError (row : Nat) (px : List Pixel) :
    (s.acceptRow row px).port.startError = s.port.startError := by
  unfold State.acceptRow; repeat' split
  all_goals simp
@[simp] theorem State.acceptRow_port_attention (row : Nat) (px : List Pixel) :
    (s.acceptRow row px).port.attention = s.port.attention := by
  unfold State.acceptRow; repeat' split
  all_goals simp
@[simp] theorem State.acceptRow_port_transaction (row : Nat) (px : List Pixel) :
    (s.acceptRow row px).port.transaction = s.port.transaction := by
  unfold State.acceptRow; repeat' split
  all_goals simp
@[simp] theorem State.acceptRow_out_notices (row : Nat) (px : List Pixel) :
    (s.acceptRow row px).out.notices = s.out.notices := by
  unfold State.acceptRow; repeat' split
  all_goals simp
@[simp] theorem State.acceptRow_out_lost (row : Nat) (px : List Pixel) :
    (s.acceptRow row px).out.lost = s.out.lost := by
  unfold State.acceptRow; repeat' split
  all_goals simp
@[simp] theorem State.acceptRow_out_accepted (row : Nat) (px : List Pixel) :
    (s.acceptRow row px).out.accepted = s.out.accepted := by
  unfold State.acceptRow; repeat' split
  all_goals simp
@[simp] theorem State.acceptRow_out_controlHeld (row : Nat) (px : List Pixel) :
    (s.acceptRow row px).out.controlHeld = s.out.controlHeld := by
  unfold State.acceptRow; repeat' split
  all_goals simp
@[simp] theorem State.acceptRow_out_position (row : Nat) (px : List Pixel) :
    (s.acceptRow row px).out.position = s.out.position := by
  unfold State.acceptRow; repeat' split
  all_goals simp
@[simp] theorem State.acceptRow_out_admission (row : Nat) (px : List Pixel) :
    (s.acceptRow row px).out.admission = s.out.admission := by
  unfold State.acceptRow; repeat' split
  all_goals simp
@[simp] theorem State.acceptRow_out_skip (row : Nat) (px : List Pixel) :
    (s.acceptRow row px).out.skip = s.out.skip := by
  unfold State.acceptRow; repeat' split
  all_goals simp
@[simp] theorem State.acceptRow_items (row : Nat) (px : List Pixel) :
    (s.acceptRow row px).items = s.items := by
  unfold State.acceptRow; repeat' split
  all_goals simp

/-! ### checkDelivery -/

@[simp] theorem State.checkDelivery_line (atEnd : Bool) (d : Delivery) :
    (s.checkDelivery atEnd d).line = s.line := by
  unfold State.checkDelivery; repeat' split
  all_goals simp
@[simp] theorem State.checkDelivery_round (atEnd : Bool) (d : Delivery) :
    (s.checkDelivery atEnd d).round = s.round := by
  unfold State.checkDelivery; repeat' split
  all_goals simp
@[simp] theorem State.checkDelivery_station (atEnd : Bool) (d : Delivery) :
    (s.checkDelivery atEnd d).station = s.station := by
  unfold State.checkDelivery; repeat' split
  all_goals simp
@[simp] theorem State.checkDelivery_timer (atEnd : Bool) (d : Delivery) :
    (s.checkDelivery atEnd d).timer = s.timer := by
  unfold State.checkDelivery; repeat' split
  all_goals simp
@[simp] theorem State.checkDelivery_roster (atEnd : Bool) (d : Delivery) :
    (s.checkDelivery atEnd d).roster = s.roster := by
  unfold State.checkDelivery; repeat' split
  all_goals simp
@[simp] theorem State.checkDelivery_agree (atEnd : Bool) (d : Delivery) :
    (s.checkDelivery atEnd d).agree = s.agree := by
  unfold State.checkDelivery; repeat' split
  all_goals simp
@[simp] theorem State.checkDelivery_schedule (atEnd : Bool) (d : Delivery) :
    (s.checkDelivery atEnd d).schedule = s.schedule := by
  unfold State.checkDelivery; repeat' split
  all_goals simp
@[simp] theorem State.checkDelivery_freeCount (atEnd : Bool) (d : Delivery) :
    (s.checkDelivery atEnd d).freeCount = s.freeCount := by
  unfold State.checkDelivery; repeat' split
  all_goals simp
@[simp] theorem State.checkDelivery_pending (atEnd : Bool) (d : Delivery) :
    (s.checkDelivery atEnd d).pending = s.pending := by
  unfold State.checkDelivery; repeat' split
  all_goals simp
@[simp] theorem State.checkDelivery_port_mode (atEnd : Bool) (d : Delivery) :
    (s.checkDelivery atEnd d).port.mode = s.port.mode := by
  unfold State.checkDelivery; repeat' split
  all_goals simp
@[simp] theorem State.checkDelivery_port_items (atEnd : Bool) (d : Delivery) :
    (s.checkDelivery atEnd d).port.items = s.port.items := by
  unfold State.checkDelivery; repeat' split
  all_goals simp
@[simp] theorem State.checkDelivery_port_result (atEnd : Bool) (d : Delivery) :
    (s.checkDelivery atEnd d).port.result = s.port.result := by
  unfold State.checkDelivery; repeat' split
  all_goals simp
@[simp] theorem State.checkDelivery_port_startError (atEnd : Bool) (d : Delivery) :
    (s.checkDelivery atEnd d).port.startError = s.port.startError := by
  unfold State.checkDelivery; repeat' split
  all_goals simp
@[simp] theorem State.checkDelivery_port_attention (atEnd : Bool) (d : Delivery) :
    (s.checkDelivery atEnd d).port.attention = s.port.attention := by
  unfold State.checkDelivery; repeat' split
  all_goals simp
@[simp] theorem State.checkDelivery_port_transaction (atEnd : Bool) (d : Delivery) :
    (s.checkDelivery atEnd d).port.transaction = s.port.transaction := by
  unfold State.checkDelivery; repeat' split
  all_goals simp
@[simp] theorem State.checkDelivery_out_notices (atEnd : Bool) (d : Delivery) :
    (s.checkDelivery atEnd d).out.notices = s.out.notices := by
  unfold State.checkDelivery; repeat' split
  all_goals simp
@[simp] theorem State.checkDelivery_out_lost (atEnd : Bool) (d : Delivery) :
    (s.checkDelivery atEnd d).out.lost = s.out.lost := by
  unfold State.checkDelivery; repeat' split
  all_goals simp
@[simp] theorem State.checkDelivery_out_accepted (atEnd : Bool) (d : Delivery) :
    (s.checkDelivery atEnd d).out.accepted = s.out.accepted := by
  unfold State.checkDelivery; repeat' split
  all_goals simp
@[simp] theorem State.checkDelivery_out_controlHeld (atEnd : Bool) (d : Delivery) :
    (s.checkDelivery atEnd d).out.controlHeld = s.out.controlHeld := by
  unfold State.checkDelivery; repeat' split
  all_goals simp
@[simp] theorem State.checkDelivery_out_position (atEnd : Bool) (d : Delivery) :
    (s.checkDelivery atEnd d).out.position = s.out.position := by
  unfold State.checkDelivery; repeat' split
  all_goals simp
@[simp] theorem State.checkDelivery_out_admission (atEnd : Bool) (d : Delivery) :
    (s.checkDelivery atEnd d).out.admission = s.out.admission := by
  unfold State.checkDelivery; repeat' split
  all_goals simp
@[simp] theorem State.checkDelivery_out_skip (atEnd : Bool) (d : Delivery) :
    (s.checkDelivery atEnd d).out.skip = s.out.skip := by
  unfold State.checkDelivery; repeat' split
  all_goals simp
@[simp] theorem State.checkDelivery_items (atEnd : Bool) (d : Delivery) :
    (s.checkDelivery atEnd d).items = s.items := by
  unfold State.checkDelivery; repeat' split
  all_goals simp

/-! ### completeDelivery -/

@[simp] theorem State.completeDelivery_line (atEnd : Bool) :
    (s.completeDelivery atEnd).line = s.line := by
  unfold State.completeDelivery; repeat' split
  all_goals simp
@[simp] theorem State.completeDelivery_round (atEnd : Bool) :
    (s.completeDelivery atEnd).round = s.round := by
  unfold State.completeDelivery; repeat' split
  all_goals simp
@[simp] theorem State.completeDelivery_station (atEnd : Bool) :
    (s.completeDelivery atEnd).station = s.station := by
  unfold State.completeDelivery; repeat' split
  all_goals simp
@[simp] theorem State.completeDelivery_timer (atEnd : Bool) :
    (s.completeDelivery atEnd).timer = s.timer := by
  unfold State.completeDelivery; repeat' split
  all_goals simp
@[simp] theorem State.completeDelivery_roster (atEnd : Bool) :
    (s.completeDelivery atEnd).roster = s.roster := by
  unfold State.completeDelivery; repeat' split
  all_goals simp
@[simp] theorem State.completeDelivery_agree (atEnd : Bool) :
    (s.completeDelivery atEnd).agree = s.agree := by
  unfold State.completeDelivery; repeat' split
  all_goals simp
@[simp] theorem State.completeDelivery_schedule (atEnd : Bool) :
    (s.completeDelivery atEnd).schedule = s.schedule := by
  unfold State.completeDelivery; repeat' split
  all_goals simp
@[simp] theorem State.completeDelivery_freeCount (atEnd : Bool) :
    (s.completeDelivery atEnd).freeCount = s.freeCount := by
  unfold State.completeDelivery; repeat' split
  all_goals simp
@[simp] theorem State.completeDelivery_pending (atEnd : Bool) :
    (s.completeDelivery atEnd).pending = s.pending := by
  unfold State.completeDelivery; repeat' split
  all_goals simp
@[simp] theorem State.completeDelivery_port_mode (atEnd : Bool) :
    (s.completeDelivery atEnd).port.mode = s.port.mode := by
  unfold State.completeDelivery; repeat' split
  all_goals simp
@[simp] theorem State.completeDelivery_port_items (atEnd : Bool) :
    (s.completeDelivery atEnd).port.items = s.port.items := by
  unfold State.completeDelivery; repeat' split
  all_goals simp
@[simp] theorem State.completeDelivery_port_result (atEnd : Bool) :
    (s.completeDelivery atEnd).port.result = s.port.result := by
  unfold State.completeDelivery; repeat' split
  all_goals simp
@[simp] theorem State.completeDelivery_port_startError (atEnd : Bool) :
    (s.completeDelivery atEnd).port.startError = s.port.startError := by
  unfold State.completeDelivery; repeat' split
  all_goals simp
@[simp] theorem State.completeDelivery_port_attention (atEnd : Bool) :
    (s.completeDelivery atEnd).port.attention = s.port.attention := by
  unfold State.completeDelivery; repeat' split
  all_goals simp
@[simp] theorem State.completeDelivery_port_transaction (atEnd : Bool) :
    (s.completeDelivery atEnd).port.transaction = s.port.transaction := by
  unfold State.completeDelivery; repeat' split
  all_goals simp
@[simp] theorem State.completeDelivery_out_notices (atEnd : Bool) :
    (s.completeDelivery atEnd).out.notices = s.out.notices := by
  unfold State.completeDelivery; repeat' split
  all_goals simp
@[simp] theorem State.completeDelivery_out_lost (atEnd : Bool) :
    (s.completeDelivery atEnd).out.lost = s.out.lost := by
  unfold State.completeDelivery; repeat' split
  all_goals simp
@[simp] theorem State.completeDelivery_out_accepted (atEnd : Bool) :
    (s.completeDelivery atEnd).out.accepted = s.out.accepted := by
  unfold State.completeDelivery; repeat' split
  all_goals simp
@[simp] theorem State.completeDelivery_out_controlHeld (atEnd : Bool) :
    (s.completeDelivery atEnd).out.controlHeld = s.out.controlHeld := by
  unfold State.completeDelivery; repeat' split
  all_goals simp
@[simp] theorem State.completeDelivery_out_position (atEnd : Bool) :
    (s.completeDelivery atEnd).out.position = s.out.position := by
  unfold State.completeDelivery; repeat' split
  all_goals simp
@[simp] theorem State.completeDelivery_out_admission (atEnd : Bool) :
    (s.completeDelivery atEnd).out.admission = s.out.admission := by
  unfold State.completeDelivery; repeat' split
  all_goals simp
@[simp] theorem State.completeDelivery_out_skip (atEnd : Bool) :
    (s.completeDelivery atEnd).out.skip = s.out.skip := by
  unfold State.completeDelivery; repeat' split
  all_goals simp
@[simp] theorem State.completeDelivery_items (atEnd : Bool) :
    (s.completeDelivery atEnd).items = s.items := by
  unfold State.completeDelivery; repeat' split
  all_goals simp

/-! ### startSchedule -/

@[simp] theorem State.startSchedule_line (inc : Bool) : (s.startSchedule inc).line = s.line := rfl
@[simp] theorem State.startSchedule_round (inc : Bool) : (s.startSchedule inc).round = s.round := rfl
@[simp] theorem State.startSchedule_station (inc : Bool) :
    (s.startSchedule inc).station = s.station := rfl
@[simp] theorem State.startSchedule_timer (inc : Bool) : (s.startSchedule inc).timer = s.timer := rfl
@[simp] theorem State.startSchedule_roster (inc : Bool) :
    (s.startSchedule inc).roster = s.roster := rfl
@[simp] theorem State.startSchedule_meter (inc : Bool) : (s.startSchedule inc).meter = s.meter := rfl
@[simp] theorem State.startSchedule_rows (inc : Bool) : (s.startSchedule inc).rows = s.rows := rfl
@[simp] theorem State.startSchedule_out (inc : Bool) : (s.startSchedule inc).out = s.out := rfl
@[simp] theorem State.startSchedule_port (inc : Bool) : (s.startSchedule inc).port = s.port := rfl
@[simp] theorem State.startSchedule_freeCount (inc : Bool) :
    (s.startSchedule inc).freeCount = s.freeCount := rfl
@[simp] theorem State.startSchedule_pending (inc : Bool) :
    (s.startSchedule inc).pending = s.pending := rfl
@[simp] theorem State.startSchedule_items (inc : Bool) : (s.startSchedule inc).items = s.items := rfl

/-! ### planFrame -/

@[simp] theorem State.planFrame_line (kind : StartKind) : (s.planFrame kind).line = s.line := rfl
@[simp] theorem State.planFrame_round (kind : StartKind) : (s.planFrame kind).round = s.round := rfl
@[simp] theorem State.planFrame_station (kind : StartKind) :
    (s.planFrame kind).station = s.station := rfl
@[simp] theorem State.planFrame_timer (kind : StartKind) : (s.planFrame kind).timer = s.timer := rfl
@[simp] theorem State.planFrame_roster (kind : StartKind) :
    (s.planFrame kind).roster = s.roster := rfl
@[simp] theorem State.planFrame_agree (kind : StartKind) : (s.planFrame kind).agree = s.agree := rfl
@[simp] theorem State.planFrame_schedule (kind : StartKind) :
    (s.planFrame kind).schedule = s.schedule := rfl
@[simp] theorem State.planFrame_out (kind : StartKind) : (s.planFrame kind).out = s.out := rfl
@[simp] theorem State.planFrame_port (kind : StartKind) : (s.planFrame kind).port = s.port := rfl
@[simp] theorem State.planFrame_freeCount (kind : StartKind) :
    (s.planFrame kind).freeCount = s.freeCount := rfl
@[simp] theorem State.planFrame_pending (kind : StartKind) :
    (s.planFrame kind).pending = s.pending := rfl
@[simp] theorem State.planFrame_items (kind : StartKind) : (s.planFrame kind).items = s.items := rfl

/-! ### frameStart -/

@[simp] theorem State.frameStart_line (kind : StartKind) (lag : Nat) (inc : Bool) :
    (s.frameStart kind lag inc).line = s.line := by
  simp [State.frameStart]
@[simp] theorem State.frameStart_round (kind : StartKind) (lag : Nat) (inc : Bool) :
    (s.frameStart kind lag inc).round = s.round := by
  simp [State.frameStart]
@[simp] theorem State.frameStart_station (kind : StartKind) (lag : Nat) (inc : Bool) :
    (s.frameStart kind lag inc).station = s.station := by
  simp [State.frameStart]
@[simp] theorem State.frameStart_roster (kind : StartKind) (lag : Nat) (inc : Bool) :
    (s.frameStart kind lag inc).roster = s.roster := by
  simp [State.frameStart]
@[simp] theorem State.frameStart_freeCount (kind : StartKind) (lag : Nat) (inc : Bool) :
    (s.frameStart kind lag inc).freeCount = s.freeCount := by
  simp [State.frameStart]
@[simp] theorem State.frameStart_pending (kind : StartKind) (lag : Nat) (inc : Bool) :
    (s.frameStart kind lag inc).pending = s.pending := by
  simp [State.frameStart]
@[simp] theorem State.frameStart_port_mode (kind : StartKind) (lag : Nat) (inc : Bool) :
    (s.frameStart kind lag inc).port.mode = s.port.mode := by
  simp [State.frameStart]
@[simp] theorem State.frameStart_port_items (kind : StartKind) (lag : Nat) (inc : Bool) :
    (s.frameStart kind lag inc).port.items = s.port.items := by
  simp [State.frameStart]
@[simp] theorem State.frameStart_port_result (kind : StartKind) (lag : Nat) (inc : Bool) :
    (s.frameStart kind lag inc).port.result = s.port.result := by
  simp [State.frameStart]
@[simp] theorem State.frameStart_port_startError (kind : StartKind) (lag : Nat) (inc : Bool) :
    (s.frameStart kind lag inc).port.startError = s.port.startError := by
  simp [State.frameStart]
@[simp] theorem State.frameStart_port_attention (kind : StartKind) (lag : Nat) (inc : Bool) :
    (s.frameStart kind lag inc).port.attention = s.port.attention := by
  simp [State.frameStart]
@[simp] theorem State.frameStart_port_transaction (kind : StartKind) (lag : Nat) (inc : Bool) :
    (s.frameStart kind lag inc).port.transaction = s.port.transaction := by
  simp [State.frameStart]
@[simp] theorem State.frameStart_out_notices (kind : StartKind) (lag : Nat) (inc : Bool) :
    (s.frameStart kind lag inc).out.notices = s.out.notices := by
  simp [State.frameStart]
@[simp] theorem State.frameStart_out_lost (kind : StartKind) (lag : Nat) (inc : Bool) :
    (s.frameStart kind lag inc).out.lost = s.out.lost := by
  simp [State.frameStart]
@[simp] theorem State.frameStart_out_accepted (kind : StartKind) (lag : Nat) (inc : Bool) :
    (s.frameStart kind lag inc).out.accepted = s.out.accepted := by
  simp [State.frameStart]
@[simp] theorem State.frameStart_out_rowsHeld (kind : StartKind) (lag : Nat) (inc : Bool) :
    (s.frameStart kind lag inc).out.rowsHeld = s.out.rowsHeld := by
  simp [State.frameStart]
@[simp] theorem State.frameStart_out_pixelsHeld (kind : StartKind) (lag : Nat) (inc : Bool) :
    (s.frameStart kind lag inc).out.pixelsHeld = s.out.pixelsHeld := by
  simp [State.frameStart]
@[simp] theorem State.frameStart_items (kind : StartKind) (lag : Nat) (inc : Bool) :
    (s.frameStart kind lag inc).items = s.items := by
  simp [State.frameStart]

/-! ### endEarly -/

@[simp] theorem State.endEarly_line (cut stopped : Bool) :
    (s.endEarly cut stopped).line = s.line := by
  simp [State.endEarly]
@[simp] theorem State.endEarly_round (cut stopped : Bool) :
    (s.endEarly cut stopped).round = s.round := by
  simp [State.endEarly]
@[simp] theorem State.endEarly_station (cut stopped : Bool) :
    (s.endEarly cut stopped).station = s.station := by
  simp [State.endEarly]
@[simp] theorem State.endEarly_timer (cut stopped : Bool) :
    (s.endEarly cut stopped).timer = s.timer := by
  simp [State.endEarly]
@[simp] theorem State.endEarly_roster (cut stopped : Bool) :
    (s.endEarly cut stopped).roster = s.roster := by
  simp [State.endEarly]
@[simp] theorem State.endEarly_agree (cut stopped : Bool) :
    (s.endEarly cut stopped).agree = s.agree := by
  simp [State.endEarly]
@[simp] theorem State.endEarly_schedule (cut stopped : Bool) :
    (s.endEarly cut stopped).schedule = s.schedule := by
  simp [State.endEarly]
@[simp] theorem State.endEarly_port (cut stopped : Bool) :
    (s.endEarly cut stopped).port = s.port := by
  simp [State.endEarly]
@[simp] theorem State.endEarly_freeCount (cut stopped : Bool) :
    (s.endEarly cut stopped).freeCount = s.freeCount := by
  simp [State.endEarly]
@[simp] theorem State.endEarly_pending (cut stopped : Bool) :
    (s.endEarly cut stopped).pending = s.pending := by
  simp [State.endEarly]
@[simp] theorem State.endEarly_out_notices (cut stopped : Bool) :
    (s.endEarly cut stopped).out.notices = s.out.notices := by
  simp [State.endEarly]
@[simp] theorem State.endEarly_out_lost (cut stopped : Bool) :
    (s.endEarly cut stopped).out.lost = s.out.lost := by
  simp [State.endEarly]
@[simp] theorem State.endEarly_out_accepted (cut stopped : Bool) :
    (s.endEarly cut stopped).out.accepted = s.out.accepted := by
  simp [State.endEarly]
@[simp] theorem State.endEarly_out_controlHeld (cut stopped : Bool) :
    (s.endEarly cut stopped).out.controlHeld = s.out.controlHeld := by
  simp [State.endEarly]
@[simp] theorem State.endEarly_out_rowsHeld (cut stopped : Bool) :
    (s.endEarly cut stopped).out.rowsHeld = s.out.rowsHeld := by
  simp [State.endEarly]
@[simp] theorem State.endEarly_out_pixelsHeld (cut stopped : Bool) :
    (s.endEarly cut stopped).out.pixelsHeld = s.out.pixelsHeld := by
  simp [State.endEarly]
@[simp] theorem State.endEarly_out_delivered (cut stopped : Bool) :
    (s.endEarly cut stopped).out.delivered = s.out.delivered := by
  simp [State.endEarly]
@[simp] theorem State.endEarly_out_dropped (cut stopped : Bool) :
    (s.endEarly cut stopped).out.dropped = s.out.dropped := by
  simp [State.endEarly]
@[simp] theorem State.endEarly_out_skip (cut stopped : Bool) :
    (s.endEarly cut stopped).out.skip = s.out.skip := by
  simp [State.endEarly]
@[simp] theorem State.endEarly_items (cut stopped : Bool) :
    (s.endEarly cut stopped).items = s.items := by
  simp [State.endEarly]

/-! ### cutFrame -/

@[simp] theorem State.cutFrame_line : (s.cutFrame).line = s.line := by
  unfold State.cutFrame; repeat' split
  all_goals simp
@[simp] theorem State.cutFrame_round : (s.cutFrame).round = s.round := by
  unfold State.cutFrame; repeat' split
  all_goals simp
@[simp] theorem State.cutFrame_station : (s.cutFrame).station = s.station := by
  unfold State.cutFrame; repeat' split
  all_goals simp
@[simp] theorem State.cutFrame_timer : (s.cutFrame).timer = s.timer := by
  unfold State.cutFrame; repeat' split
  all_goals simp
@[simp] theorem State.cutFrame_roster : (s.cutFrame).roster = s.roster := by
  unfold State.cutFrame; repeat' split
  all_goals simp
@[simp] theorem State.cutFrame_agree : (s.cutFrame).agree = s.agree := by
  unfold State.cutFrame; repeat' split
  all_goals simp
@[simp] theorem State.cutFrame_schedule : (s.cutFrame).schedule = s.schedule := by
  unfold State.cutFrame; repeat' split
  all_goals simp
@[simp] theorem State.cutFrame_port : (s.cutFrame).port = s.port := by
  unfold State.cutFrame; repeat' split
  all_goals simp
@[simp] theorem State.cutFrame_freeCount : (s.cutFrame).freeCount = s.freeCount := by
  unfold State.cutFrame; repeat' split
  all_goals simp
@[simp] theorem State.cutFrame_pending : (s.cutFrame).pending = s.pending := by
  unfold State.cutFrame; repeat' split
  all_goals simp
@[simp] theorem State.cutFrame_out_notices : (s.cutFrame).out.notices = s.out.notices := by
  unfold State.cutFrame; repeat' split
  all_goals simp
@[simp] theorem State.cutFrame_out_lost : (s.cutFrame).out.lost = s.out.lost := by
  unfold State.cutFrame; repeat' split
  all_goals simp
@[simp] theorem State.cutFrame_out_accepted : (s.cutFrame).out.accepted = s.out.accepted := by
  unfold State.cutFrame; repeat' split
  all_goals simp
@[simp] theorem State.cutFrame_out_controlHeld :
    (s.cutFrame).out.controlHeld = s.out.controlHeld := by
  unfold State.cutFrame; repeat' split
  all_goals simp
@[simp] theorem State.cutFrame_out_rowsHeld : (s.cutFrame).out.rowsHeld = s.out.rowsHeld := by
  unfold State.cutFrame; repeat' split
  all_goals simp
@[simp] theorem State.cutFrame_out_pixelsHeld : (s.cutFrame).out.pixelsHeld = s.out.pixelsHeld := by
  unfold State.cutFrame; repeat' split
  all_goals simp
@[simp] theorem State.cutFrame_out_delivered : (s.cutFrame).out.delivered = s.out.delivered := by
  unfold State.cutFrame; repeat' split
  all_goals simp
@[simp] theorem State.cutFrame_out_dropped : (s.cutFrame).out.dropped = s.out.dropped := by
  unfold State.cutFrame; repeat' split
  all_goals simp
@[simp] theorem State.cutFrame_out_skip : (s.cutFrame).out.skip = s.out.skip := by
  unfold State.cutFrame; repeat' split
  all_goals simp
@[simp] theorem State.cutFrame_items : (s.cutFrame).items = s.items := by
  unfold State.cutFrame; repeat' split
  all_goals simp

/-! ### readEnd -/

@[simp] theorem State.readEnd_line (k : Nat) : (s.readEnd k).line = s.line := by
  simp [State.readEnd]
@[simp] theorem State.readEnd_round (k : Nat) : (s.readEnd k).round = s.round := by
  simp [State.readEnd]
@[simp] theorem State.readEnd_station (k : Nat) : (s.readEnd k).station = s.station := by
  simp [State.readEnd]
@[simp] theorem State.readEnd_roster (k : Nat) : (s.readEnd k).roster = s.roster := by
  simp [State.readEnd]
@[simp] theorem State.readEnd_agree (k : Nat) : (s.readEnd k).agree = s.agree := by
  simp [State.readEnd]
@[simp] theorem State.readEnd_schedule (k : Nat) : (s.readEnd k).schedule = s.schedule := by
  simp [State.readEnd]
@[simp] theorem State.readEnd_freeCount (k : Nat) : (s.readEnd k).freeCount = s.freeCount := by
  simp [State.readEnd]
@[simp] theorem State.readEnd_pending (k : Nat) : (s.readEnd k).pending = s.pending := by
  simp [State.readEnd]
@[simp] theorem State.readEnd_port_mode (k : Nat) : (s.readEnd k).port.mode = s.port.mode := by
  simp [State.readEnd]
@[simp] theorem State.readEnd_port_items (k : Nat) : (s.readEnd k).port.items = s.port.items := by
  simp [State.readEnd]
@[simp] theorem State.readEnd_port_result (k : Nat) :
    (s.readEnd k).port.result = s.port.result := by
  simp [State.readEnd]
@[simp] theorem State.readEnd_port_startError (k : Nat) :
    (s.readEnd k).port.startError = s.port.startError := by
  simp [State.readEnd]
@[simp] theorem State.readEnd_port_attention (k : Nat) :
    (s.readEnd k).port.attention = s.port.attention := by
  simp [State.readEnd]
@[simp] theorem State.readEnd_port_transaction (k : Nat) :
    (s.readEnd k).port.transaction = s.port.transaction := by
  simp [State.readEnd]
@[simp] theorem State.readEnd_out_notices (k : Nat) :
    (s.readEnd k).out.notices = s.out.notices := by
  simp [State.readEnd]
@[simp] theorem State.readEnd_out_lost (k : Nat) : (s.readEnd k).out.lost = s.out.lost := by
  simp [State.readEnd]
@[simp] theorem State.readEnd_out_accepted (k : Nat) :
    (s.readEnd k).out.accepted = s.out.accepted := by
  simp [State.readEnd]
@[simp] theorem State.readEnd_out_controlHeld (k : Nat) :
    (s.readEnd k).out.controlHeld = s.out.controlHeld := by
  simp [State.readEnd]
@[simp] theorem State.readEnd_out_rowsHeld (k : Nat) :
    (s.readEnd k).out.rowsHeld = s.out.rowsHeld := by
  simp [State.readEnd]
@[simp] theorem State.readEnd_out_pixelsHeld (k : Nat) :
    (s.readEnd k).out.pixelsHeld = s.out.pixelsHeld := by
  simp [State.readEnd]
@[simp] theorem State.readEnd_out_delivered (k : Nat) :
    (s.readEnd k).out.delivered = s.out.delivered := by
  simp [State.readEnd]
@[simp] theorem State.readEnd_out_dropped (k : Nat) :
    (s.readEnd k).out.dropped = s.out.dropped := by
  simp [State.readEnd]
@[simp] theorem State.readEnd_out_skip (k : Nat) : (s.readEnd k).out.skip = s.out.skip := by
  simp [State.readEnd]
@[simp] theorem State.readEnd_items (k : Nat) : (s.readEnd k).items = s.items := by
  simp [State.readEnd]

/-! ### enterWait -/

@[simp] theorem State.enterWait_round : (s.enterWait).round = s.round := by
  unfold State.enterWait; repeat' split
  all_goals simp
@[simp] theorem State.enterWait_station : (s.enterWait).station = s.station := by
  unfold State.enterWait; repeat' split
  all_goals simp
@[simp] theorem State.enterWait_roster : (s.enterWait).roster = s.roster := by
  unfold State.enterWait; repeat' split
  all_goals simp
@[simp] theorem State.enterWait_agree : (s.enterWait).agree = s.agree := by
  unfold State.enterWait; repeat' split
  all_goals simp
@[simp] theorem State.enterWait_schedule : (s.enterWait).schedule = s.schedule := by
  unfold State.enterWait; repeat' split
  all_goals simp
@[simp] theorem State.enterWait_meter : (s.enterWait).meter = s.meter := by
  unfold State.enterWait; repeat' split
  all_goals simp
@[simp] theorem State.enterWait_rows : (s.enterWait).rows = s.rows := by
  unfold State.enterWait; repeat' split
  all_goals simp
@[simp] theorem State.enterWait_out : (s.enterWait).out = s.out := by
  unfold State.enterWait; repeat' split
  all_goals simp
@[simp] theorem State.enterWait_port : (s.enterWait).port = s.port := by
  unfold State.enterWait; repeat' split
  all_goals simp
@[simp] theorem State.enterWait_freeCount : (s.enterWait).freeCount = s.freeCount := by
  unfold State.enterWait; repeat' split
  all_goals simp
@[simp] theorem State.enterWait_pending : (s.enterWait).pending = s.pending := by
  unfold State.enterWait; repeat' split
  all_goals simp
@[simp] theorem State.enterWait_items : (s.enterWait).items = s.items := by
  unfold State.enterWait; repeat' split
  all_goals simp

/-! ### passSlot -/

@[simp] theorem State.passSlot_round (k : Nat) (next : TimerPhase) :
    (s.passSlot k next).round = s.round := by
  unfold State.passSlot; repeat' split
  all_goals simp
@[simp] theorem State.passSlot_station (k : Nat) (next : TimerPhase) :
    (s.passSlot k next).station = s.station := by
  unfold State.passSlot; repeat' split
  all_goals simp
@[simp] theorem State.passSlot_roster (k : Nat) (next : TimerPhase) :
    (s.passSlot k next).roster = s.roster := by
  unfold State.passSlot; repeat' split
  all_goals simp
@[simp] theorem State.passSlot_agree (k : Nat) (next : TimerPhase) :
    (s.passSlot k next).agree = s.agree := by
  unfold State.passSlot; repeat' split
  all_goals simp
@[simp] theorem State.passSlot_schedule (k : Nat) (next : TimerPhase) :
    (s.passSlot k next).schedule = s.schedule := by
  unfold State.passSlot; repeat' split
  all_goals simp
@[simp] theorem State.passSlot_meter (k : Nat) (next : TimerPhase) :
    (s.passSlot k next).meter = s.meter := by
  unfold State.passSlot; repeat' split
  all_goals simp
@[simp] theorem State.passSlot_out (k : Nat) (next : TimerPhase) :
    (s.passSlot k next).out = s.out := by
  unfold State.passSlot; repeat' split
  all_goals simp
@[simp] theorem State.passSlot_port (k : Nat) (next : TimerPhase) :
    (s.passSlot k next).port = s.port := by
  unfold State.passSlot; repeat' split
  all_goals simp
@[simp] theorem State.passSlot_freeCount (k : Nat) (next : TimerPhase) :
    (s.passSlot k next).freeCount = s.freeCount := by
  unfold State.passSlot; repeat' split
  all_goals simp
@[simp] theorem State.passSlot_pending (k : Nat) (next : TimerPhase) :
    (s.passSlot k next).pending = s.pending := by
  unfold State.passSlot; repeat' split
  all_goals simp
@[simp] theorem State.passSlot_items (k : Nat) (next : TimerPhase) :
    (s.passSlot k next).items = s.items := by
  unfold State.passSlot; repeat' split
  all_goals simp

/-! ### endSlot -/

@[simp] theorem State.endSlot_round : (s.endSlot).round = s.round := by
  unfold State.endSlot; split <;> (try dsimp only) <;> (try split) <;> simp
@[simp] theorem State.endSlot_station : (s.endSlot).station = s.station := by
  unfold State.endSlot; split <;> (try dsimp only) <;> (try split) <;> simp
@[simp] theorem State.endSlot_roster : (s.endSlot).roster = s.roster := by
  unfold State.endSlot; split <;> (try dsimp only) <;> (try split) <;> simp
@[simp] theorem State.endSlot_agree : (s.endSlot).agree = s.agree := by
  unfold State.endSlot; split <;> (try dsimp only) <;> (try split) <;> simp
@[simp] theorem State.endSlot_schedule : (s.endSlot).schedule = s.schedule := by
  unfold State.endSlot; split <;> (try dsimp only) <;> (try split) <;> simp
@[simp] theorem State.endSlot_freeCount : (s.endSlot).freeCount = s.freeCount := by
  unfold State.endSlot; split <;> (try dsimp only) <;> (try split) <;> simp
@[simp] theorem State.endSlot_pending : (s.endSlot).pending = s.pending := by
  unfold State.endSlot; split <;> (try dsimp only) <;> (try split) <;> simp
@[simp] theorem State.endSlot_port_mode : (s.endSlot).port.mode = s.port.mode := by
  unfold State.endSlot; split <;> (try dsimp only) <;> (try split) <;> simp
@[simp] theorem State.endSlot_port_items : (s.endSlot).port.items = s.port.items := by
  unfold State.endSlot; split <;> (try dsimp only) <;> (try split) <;> simp
@[simp] theorem State.endSlot_port_result : (s.endSlot).port.result = s.port.result := by
  unfold State.endSlot; split <;> (try dsimp only) <;> (try split) <;> simp
@[simp] theorem State.endSlot_port_startError :
    (s.endSlot).port.startError = s.port.startError := by
  unfold State.endSlot; split <;> (try dsimp only) <;> (try split) <;> simp
@[simp] theorem State.endSlot_port_attention : (s.endSlot).port.attention = s.port.attention := by
  unfold State.endSlot; split <;> (try dsimp only) <;> (try split) <;> simp
@[simp] theorem State.endSlot_port_transaction :
    (s.endSlot).port.transaction = s.port.transaction := by
  unfold State.endSlot; split <;> (try dsimp only) <;> (try split) <;> simp
@[simp] theorem State.endSlot_out_notices : (s.endSlot).out.notices = s.out.notices := by
  unfold State.endSlot; split <;> (try dsimp only) <;> (try split) <;> simp
@[simp] theorem State.endSlot_out_lost : (s.endSlot).out.lost = s.out.lost := by
  unfold State.endSlot; split <;> (try dsimp only) <;> (try split) <;> simp
@[simp] theorem State.endSlot_out_accepted : (s.endSlot).out.accepted = s.out.accepted := by
  unfold State.endSlot; split <;> (try dsimp only) <;> (try split) <;> simp
@[simp] theorem State.endSlot_out_controlHeld :
    (s.endSlot).out.controlHeld = s.out.controlHeld := by
  unfold State.endSlot; split <;> (try dsimp only) <;> (try split) <;> simp
@[simp] theorem State.endSlot_out_rowsHeld : (s.endSlot).out.rowsHeld = s.out.rowsHeld := by
  unfold State.endSlot; split <;> (try dsimp only) <;> (try split) <;> simp
@[simp] theorem State.endSlot_out_pixelsHeld : (s.endSlot).out.pixelsHeld = s.out.pixelsHeld := by
  unfold State.endSlot; split <;> (try dsimp only) <;> (try split) <;> simp
@[simp] theorem State.endSlot_out_delivered : (s.endSlot).out.delivered = s.out.delivered := by
  unfold State.endSlot; split <;> (try dsimp only) <;> (try split) <;> simp
@[simp] theorem State.endSlot_out_dropped : (s.endSlot).out.dropped = s.out.dropped := by
  unfold State.endSlot; split <;> (try dsimp only) <;> (try split) <;> simp
@[simp] theorem State.endSlot_out_skip : (s.endSlot).out.skip = s.out.skip := by
  unfold State.endSlot; split <;> (try dsimp only) <;> (try split) <;> simp
@[simp] theorem State.endSlot_items : (s.endSlot).items = s.items := by
  unfold State.endSlot; split <;> (try dsimp only) <;> (try split) <;> simp

/-! ### passRecord -/

@[simp] theorem State.passRecord_meter (r : RoundRecord) (atMark : Bool) :
    (s.passRecord r atMark).meter = s.meter := by
  unfold State.passRecord; dsimp only; repeat' split
  all_goals simp
@[simp] theorem State.passRecord_rows (r : RoundRecord) (atMark : Bool) :
    (s.passRecord r atMark).rows = s.rows := by
  unfold State.passRecord; dsimp only; repeat' split
  all_goals simp
@[simp] theorem State.passRecord_pending (r : RoundRecord) (atMark : Bool) :
    (s.passRecord r atMark).pending = s.pending := by
  unfold State.passRecord; dsimp only; repeat' split
  all_goals simp
@[simp] theorem State.passRecord_port_mode (r : RoundRecord) (atMark : Bool) :
    (s.passRecord r atMark).port.mode = s.port.mode := by
  unfold State.passRecord; dsimp only; repeat' split
  all_goals simp
@[simp] theorem State.passRecord_port_items (r : RoundRecord) (atMark : Bool) :
    (s.passRecord r atMark).port.items = s.port.items := by
  unfold State.passRecord; dsimp only; repeat' split
  all_goals simp
@[simp] theorem State.passRecord_port_result (r : RoundRecord) (atMark : Bool) :
    (s.passRecord r atMark).port.result = s.port.result := by
  unfold State.passRecord; dsimp only; repeat' split
  all_goals simp
@[simp] theorem State.passRecord_port_startError (r : RoundRecord) (atMark : Bool) :
    (s.passRecord r atMark).port.startError = s.port.startError := by
  unfold State.passRecord; dsimp only; repeat' split
  all_goals simp
@[simp] theorem State.passRecord_out_queue (r : RoundRecord) (atMark : Bool) :
    (s.passRecord r atMark).out.queue = s.out.queue := by
  unfold State.passRecord; dsimp only; repeat' split
  all_goals simp
@[simp] theorem State.passRecord_out_controlHeld (r : RoundRecord) (atMark : Bool) :
    (s.passRecord r atMark).out.controlHeld = s.out.controlHeld := by
  unfold State.passRecord; dsimp only; repeat' split
  all_goals simp
@[simp] theorem State.passRecord_out_rowsHeld (r : RoundRecord) (atMark : Bool) :
    (s.passRecord r atMark).out.rowsHeld = s.out.rowsHeld := by
  unfold State.passRecord; dsimp only; repeat' split
  all_goals simp
@[simp] theorem State.passRecord_out_pixelsHeld (r : RoundRecord) (atMark : Bool) :
    (s.passRecord r atMark).out.pixelsHeld = s.out.pixelsHeld := by
  unfold State.passRecord; dsimp only; repeat' split
  all_goals simp
@[simp] theorem State.passRecord_out_position (r : RoundRecord) (atMark : Bool) :
    (s.passRecord r atMark).out.position = s.out.position := by
  unfold State.passRecord; dsimp only; repeat' split
  all_goals simp
@[simp] theorem State.passRecord_out_admission (r : RoundRecord) (atMark : Bool) :
    (s.passRecord r atMark).out.admission = s.out.admission := by
  unfold State.passRecord; dsimp only; repeat' split
  all_goals simp
@[simp] theorem State.passRecord_out_delivered (r : RoundRecord) (atMark : Bool) :
    (s.passRecord r atMark).out.delivered = s.out.delivered := by
  unfold State.passRecord; dsimp only; repeat' split
  all_goals simp
@[simp] theorem State.passRecord_out_dropped (r : RoundRecord) (atMark : Bool) :
    (s.passRecord r atMark).out.dropped = s.out.dropped := by
  unfold State.passRecord; dsimp only; repeat' split
  all_goals simp
@[simp] theorem State.passRecord_out_skip (r : RoundRecord) (atMark : Bool) :
    (s.passRecord r atMark).out.skip = s.out.skip := by
  unfold State.passRecord; dsimp only; repeat' split
  all_goals simp
@[simp] theorem State.passRecord_out_accepted (r : RoundRecord) (atMark : Bool) :
    (s.passRecord r atMark).out.accepted = s.out.accepted := by
  unfold State.passRecord; dsimp only; repeat' split
  all_goals simp
@[simp] theorem State.passRecord_items (r : RoundRecord) (atMark : Bool) :
    (s.passRecord r atMark).items = s.items := by
  unfold State.passRecord; dsimp only; repeat' split
  all_goals simp

/-! ### closeAtMark -/

@[simp] theorem State.closeAtMark_meter : (s.closeAtMark).meter = s.meter := by
  unfold State.closeAtMark; repeat' split
  all_goals simp
@[simp] theorem State.closeAtMark_rows : (s.closeAtMark).rows = s.rows := by
  unfold State.closeAtMark; repeat' split
  all_goals simp
@[simp] theorem State.closeAtMark_pending : (s.closeAtMark).pending = s.pending := by
  unfold State.closeAtMark; repeat' split
  all_goals simp
@[simp] theorem State.closeAtMark_port_mode : (s.closeAtMark).port.mode = s.port.mode := by
  unfold State.closeAtMark; repeat' split
  all_goals simp
@[simp] theorem State.closeAtMark_port_items : (s.closeAtMark).port.items = s.port.items := by
  unfold State.closeAtMark; repeat' split
  all_goals simp
@[simp] theorem State.closeAtMark_port_result : (s.closeAtMark).port.result = s.port.result := by
  unfold State.closeAtMark; repeat' split
  all_goals simp
@[simp] theorem State.closeAtMark_port_startError :
    (s.closeAtMark).port.startError = s.port.startError := by
  unfold State.closeAtMark; repeat' split
  all_goals simp
@[simp] theorem State.closeAtMark_out_queue : (s.closeAtMark).out.queue = s.out.queue := by
  unfold State.closeAtMark; repeat' split
  all_goals simp
@[simp] theorem State.closeAtMark_out_controlHeld :
    (s.closeAtMark).out.controlHeld = s.out.controlHeld := by
  unfold State.closeAtMark; repeat' split
  all_goals simp
@[simp] theorem State.closeAtMark_out_rowsHeld : (s.closeAtMark).out.rowsHeld = s.out.rowsHeld := by
  unfold State.closeAtMark; repeat' split
  all_goals simp
@[simp] theorem State.closeAtMark_out_pixelsHeld :
    (s.closeAtMark).out.pixelsHeld = s.out.pixelsHeld := by
  unfold State.closeAtMark; repeat' split
  all_goals simp
@[simp] theorem State.closeAtMark_out_position : (s.closeAtMark).out.position = s.out.position := by
  unfold State.closeAtMark; repeat' split
  all_goals simp
@[simp] theorem State.closeAtMark_out_admission :
    (s.closeAtMark).out.admission = s.out.admission := by
  unfold State.closeAtMark; repeat' split
  all_goals simp
@[simp] theorem State.closeAtMark_out_delivered :
    (s.closeAtMark).out.delivered = s.out.delivered := by
  unfold State.closeAtMark; repeat' split
  all_goals simp
@[simp] theorem State.closeAtMark_out_dropped : (s.closeAtMark).out.dropped = s.out.dropped := by
  unfold State.closeAtMark; repeat' split
  all_goals simp
@[simp] theorem State.closeAtMark_out_skip : (s.closeAtMark).out.skip = s.out.skip := by
  unfold State.closeAtMark; repeat' split
  all_goals simp
@[simp] theorem State.closeAtMark_out_accepted : (s.closeAtMark).out.accepted = s.out.accepted := by
  unfold State.closeAtMark; repeat' split
  all_goals simp
@[simp] theorem State.closeAtMark_items : (s.closeAtMark).items = s.items := by
  unfold State.closeAtMark; repeat' split
  all_goals simp

/-! ### markFrame -/

@[simp] theorem State.markFrame_line (inc : Bool) : (s.markFrame inc).line = s.line := by
  unfold State.markFrame; repeat' split
  all_goals simp
@[simp] theorem State.markFrame_round (inc : Bool) : (s.markFrame inc).round = s.round := by
  unfold State.markFrame; repeat' split
  all_goals simp
@[simp] theorem State.markFrame_station (inc : Bool) : (s.markFrame inc).station = s.station := by
  unfold State.markFrame; repeat' split
  all_goals simp
@[simp] theorem State.markFrame_roster (inc : Bool) : (s.markFrame inc).roster = s.roster := by
  unfold State.markFrame; repeat' split
  all_goals simp
@[simp] theorem State.markFrame_freeCount (inc : Bool) :
    (s.markFrame inc).freeCount = s.freeCount := by
  unfold State.markFrame; repeat' split
  all_goals simp
@[simp] theorem State.markFrame_pending (inc : Bool) : (s.markFrame inc).pending = s.pending := by
  unfold State.markFrame; repeat' split
  all_goals simp
@[simp] theorem State.markFrame_port_mode (inc : Bool) :
    (s.markFrame inc).port.mode = s.port.mode := by
  unfold State.markFrame; repeat' split
  all_goals simp
@[simp] theorem State.markFrame_port_items (inc : Bool) :
    (s.markFrame inc).port.items = s.port.items := by
  unfold State.markFrame; repeat' split
  all_goals simp
@[simp] theorem State.markFrame_port_result (inc : Bool) :
    (s.markFrame inc).port.result = s.port.result := by
  unfold State.markFrame; repeat' split
  all_goals simp
@[simp] theorem State.markFrame_port_startError (inc : Bool) :
    (s.markFrame inc).port.startError = s.port.startError := by
  unfold State.markFrame; repeat' split
  all_goals simp
@[simp] theorem State.markFrame_port_attention (inc : Bool) :
    (s.markFrame inc).port.attention = s.port.attention := by
  unfold State.markFrame; repeat' split
  all_goals simp
@[simp] theorem State.markFrame_port_transaction (inc : Bool) :
    (s.markFrame inc).port.transaction = s.port.transaction := by
  unfold State.markFrame; repeat' split
  all_goals simp
@[simp] theorem State.markFrame_out_notices (inc : Bool) :
    (s.markFrame inc).out.notices = s.out.notices := by
  unfold State.markFrame; repeat' split
  all_goals simp
@[simp] theorem State.markFrame_out_lost (inc : Bool) :
    (s.markFrame inc).out.lost = s.out.lost := by
  unfold State.markFrame; repeat' split
  all_goals simp
@[simp] theorem State.markFrame_out_accepted (inc : Bool) :
    (s.markFrame inc).out.accepted = s.out.accepted := by
  unfold State.markFrame; repeat' split
  all_goals simp
@[simp] theorem State.markFrame_out_rowsHeld (inc : Bool) :
    (s.markFrame inc).out.rowsHeld = s.out.rowsHeld := by
  unfold State.markFrame; repeat' split
  all_goals simp
@[simp] theorem State.markFrame_out_pixelsHeld (inc : Bool) :
    (s.markFrame inc).out.pixelsHeld = s.out.pixelsHeld := by
  unfold State.markFrame; repeat' split
  all_goals simp
@[simp] theorem State.markFrame_items (inc : Bool) : (s.markFrame inc).items = s.items := by
  unfold State.markFrame; repeat' split
  all_goals simp

/-! ### recogniseMark -/

@[simp] theorem State.recogniseMark_pending : (s.recogniseMark).pending = s.pending := by
  simp [State.recogniseMark]
@[simp] theorem State.recogniseMark_port_mode : (s.recogniseMark).port.mode = s.port.mode := by
  simp [State.recogniseMark]
@[simp] theorem State.recogniseMark_port_items : (s.recogniseMark).port.items = s.port.items := by
  simp [State.recogniseMark]
@[simp] theorem State.recogniseMark_port_result :
    (s.recogniseMark).port.result = s.port.result := by
  simp [State.recogniseMark]
@[simp] theorem State.recogniseMark_port_startError :
    (s.recogniseMark).port.startError = s.port.startError := by
  simp [State.recogniseMark]
@[simp] theorem State.recogniseMark_out_accepted :
    (s.recogniseMark).out.accepted = s.out.accepted := by
  simp [State.recogniseMark]
@[simp] theorem State.recogniseMark_out_rowsHeld :
    (s.recogniseMark).out.rowsHeld = s.out.rowsHeld := by
  simp [State.recogniseMark]
@[simp] theorem State.recogniseMark_out_pixelsHeld :
    (s.recogniseMark).out.pixelsHeld = s.out.pixelsHeld := by
  simp [State.recogniseMark]
@[simp] theorem State.recogniseMark_items : (s.recogniseMark).items = s.items := by
  simp [State.recogniseMark]

/-! ### localFrame -/

@[simp] theorem State.localFrame_line : (s.localFrame).line = s.line := by
  simp [State.localFrame]
@[simp] theorem State.localFrame_station : (s.localFrame).station = s.station := by
  simp [State.localFrame]
@[simp] theorem State.localFrame_roster : (s.localFrame).roster = s.roster := by
  simp [State.localFrame]
@[simp] theorem State.localFrame_freeCount : (s.localFrame).freeCount = s.freeCount := by
  simp [State.localFrame]
@[simp] theorem State.localFrame_pending : (s.localFrame).pending = s.pending := by
  simp [State.localFrame]
@[simp] theorem State.localFrame_port_mode : (s.localFrame).port.mode = s.port.mode := by
  simp [State.localFrame]
@[simp] theorem State.localFrame_port_items : (s.localFrame).port.items = s.port.items := by
  simp [State.localFrame]
@[simp] theorem State.localFrame_port_result : (s.localFrame).port.result = s.port.result := by
  simp [State.localFrame]
@[simp] theorem State.localFrame_port_startError :
    (s.localFrame).port.startError = s.port.startError := by
  simp [State.localFrame]
@[simp] theorem State.localFrame_port_attention :
    (s.localFrame).port.attention = s.port.attention := by
  simp [State.localFrame]
@[simp] theorem State.localFrame_port_transaction :
    (s.localFrame).port.transaction = s.port.transaction := by
  simp [State.localFrame]
@[simp] theorem State.localFrame_out_notices : (s.localFrame).out.notices = s.out.notices := by
  simp [State.localFrame]
@[simp] theorem State.localFrame_out_lost : (s.localFrame).out.lost = s.out.lost := by
  simp [State.localFrame]
@[simp] theorem State.localFrame_out_accepted : (s.localFrame).out.accepted = s.out.accepted := by
  simp [State.localFrame]
@[simp] theorem State.localFrame_out_rowsHeld : (s.localFrame).out.rowsHeld = s.out.rowsHeld := by
  simp [State.localFrame]
@[simp] theorem State.localFrame_out_pixelsHeld :
    (s.localFrame).out.pixelsHeld = s.out.pixelsHeld := by
  simp [State.localFrame]
@[simp] theorem State.localFrame_items : (s.localFrame).items = s.items := by
  simp [State.localFrame]

/-! ### stall -/

@[simp] theorem State.stall_round : (s.stall).round = s.round := by
  simp [State.stall]
@[simp] theorem State.stall_timer : (s.stall).timer = s.timer := by
  simp [State.stall]
@[simp] theorem State.stall_roster : (s.stall).roster = s.roster := by
  simp [State.stall]
@[simp] theorem State.stall_agree : (s.stall).agree = s.agree := by
  simp [State.stall]
@[simp] theorem State.stall_schedule : (s.stall).schedule = s.schedule := by
  simp [State.stall]
@[simp] theorem State.stall_meter : (s.stall).meter = s.meter := by
  simp [State.stall]
@[simp] theorem State.stall_rows : (s.stall).rows = s.rows := by
  simp [State.stall]
@[simp] theorem State.stall_pending : (s.stall).pending = s.pending := by
  simp [State.stall]
@[simp] theorem State.stall_port_mode : (s.stall).port.mode = s.port.mode := by
  simp [State.stall]
@[simp] theorem State.stall_port_items : (s.stall).port.items = s.port.items := by
  simp [State.stall]
@[simp] theorem State.stall_port_result : (s.stall).port.result = s.port.result := by
  simp [State.stall]
@[simp] theorem State.stall_port_startError : (s.stall).port.startError = s.port.startError := by
  simp [State.stall]
@[simp] theorem State.stall_out_queue : (s.stall).out.queue = s.out.queue := by
  simp [State.stall]
@[simp] theorem State.stall_out_controlHeld : (s.stall).out.controlHeld = s.out.controlHeld := by
  simp [State.stall]
@[simp] theorem State.stall_out_rowsHeld : (s.stall).out.rowsHeld = s.out.rowsHeld := by
  simp [State.stall]
@[simp] theorem State.stall_out_pixelsHeld : (s.stall).out.pixelsHeld = s.out.pixelsHeld := by
  simp [State.stall]
@[simp] theorem State.stall_out_position : (s.stall).out.position = s.out.position := by
  simp [State.stall]
@[simp] theorem State.stall_out_admission : (s.stall).out.admission = s.out.admission := by
  simp [State.stall]
@[simp] theorem State.stall_out_delivered : (s.stall).out.delivered = s.out.delivered := by
  simp [State.stall]
@[simp] theorem State.stall_out_dropped : (s.stall).out.dropped = s.out.dropped := by
  simp [State.stall]
@[simp] theorem State.stall_out_skip : (s.stall).out.skip = s.out.skip := by
  simp [State.stall]
@[simp] theorem State.stall_out_accepted : (s.stall).out.accepted = s.out.accepted := by
  simp [State.stall]
@[simp] theorem State.stall_items : (s.stall).items = s.items := by
  simp [State.stall]

/-! ### found -/

@[simp] theorem State.found_round : (s.found).round = s.round := by
  simp [State.found]
@[simp] theorem State.found_timer : (s.found).timer = s.timer := by
  simp [State.found]
@[simp] theorem State.found_roster : (s.found).roster = s.roster := by
  simp [State.found]
@[simp] theorem State.found_agree : (s.found).agree = s.agree := by
  simp [State.found]
@[simp] theorem State.found_schedule : (s.found).schedule = s.schedule := by
  simp [State.found]
@[simp] theorem State.found_meter : (s.found).meter = s.meter := by
  simp [State.found]
@[simp] theorem State.found_rows : (s.found).rows = s.rows := by
  simp [State.found]
@[simp] theorem State.found_pending : (s.found).pending = s.pending := by
  simp [State.found]
@[simp] theorem State.found_port_mode : (s.found).port.mode = s.port.mode := by
  simp [State.found]
@[simp] theorem State.found_port_items : (s.found).port.items = s.port.items := by
  simp [State.found]
@[simp] theorem State.found_port_result : (s.found).port.result = s.port.result := by
  simp [State.found]
@[simp] theorem State.found_port_startError : (s.found).port.startError = s.port.startError := by
  simp [State.found]
@[simp] theorem State.found_out_queue : (s.found).out.queue = s.out.queue := by
  simp [State.found]
@[simp] theorem State.found_out_controlHeld : (s.found).out.controlHeld = s.out.controlHeld := by
  simp [State.found]
@[simp] theorem State.found_out_rowsHeld : (s.found).out.rowsHeld = s.out.rowsHeld := by
  simp [State.found]
@[simp] theorem State.found_out_pixelsHeld : (s.found).out.pixelsHeld = s.out.pixelsHeld := by
  simp [State.found]
@[simp] theorem State.found_out_position : (s.found).out.position = s.out.position := by
  simp [State.found]
@[simp] theorem State.found_out_admission : (s.found).out.admission = s.out.admission := by
  simp [State.found]
@[simp] theorem State.found_out_delivered : (s.found).out.delivered = s.out.delivered := by
  simp [State.found]
@[simp] theorem State.found_out_dropped : (s.found).out.dropped = s.out.dropped := by
  simp [State.found]
@[simp] theorem State.found_out_skip : (s.found).out.skip = s.out.skip := by
  simp [State.found]
@[simp] theorem State.found_out_accepted : (s.found).out.accepted = s.out.accepted := by
  simp [State.found]
@[simp] theorem State.found_items : (s.found).items = s.items := by
  simp [State.found]

/-! ### lineLow -/

@[simp] theorem State.lineLow_round : (s.lineLow).round = s.round := by
  unfold State.lineLow; repeat' split
  all_goals simp
@[simp] theorem State.lineLow_timer : (s.lineLow).timer = s.timer := by
  unfold State.lineLow; repeat' split
  all_goals simp
@[simp] theorem State.lineLow_roster : (s.lineLow).roster = s.roster := by
  unfold State.lineLow; repeat' split
  all_goals simp
@[simp] theorem State.lineLow_agree : (s.lineLow).agree = s.agree := by
  unfold State.lineLow; repeat' split
  all_goals simp
@[simp] theorem State.lineLow_schedule : (s.lineLow).schedule = s.schedule := by
  unfold State.lineLow; repeat' split
  all_goals simp
@[simp] theorem State.lineLow_meter : (s.lineLow).meter = s.meter := by
  unfold State.lineLow; repeat' split
  all_goals simp
@[simp] theorem State.lineLow_rows : (s.lineLow).rows = s.rows := by
  unfold State.lineLow; repeat' split
  all_goals simp
@[simp] theorem State.lineLow_pending : (s.lineLow).pending = s.pending := by
  unfold State.lineLow; repeat' split
  all_goals simp
@[simp] theorem State.lineLow_port_mode : (s.lineLow).port.mode = s.port.mode := by
  unfold State.lineLow; repeat' split
  all_goals simp
@[simp] theorem State.lineLow_port_items : (s.lineLow).port.items = s.port.items := by
  unfold State.lineLow; repeat' split
  all_goals simp
@[simp] theorem State.lineLow_port_result : (s.lineLow).port.result = s.port.result := by
  unfold State.lineLow; repeat' split
  all_goals simp
@[simp] theorem State.lineLow_port_startError :
    (s.lineLow).port.startError = s.port.startError := by
  unfold State.lineLow; repeat' split
  all_goals simp
@[simp] theorem State.lineLow_out_queue : (s.lineLow).out.queue = s.out.queue := by
  unfold State.lineLow; repeat' split
  all_goals simp
@[simp] theorem State.lineLow_out_controlHeld :
    (s.lineLow).out.controlHeld = s.out.controlHeld := by
  unfold State.lineLow; repeat' split
  all_goals simp
@[simp] theorem State.lineLow_out_rowsHeld : (s.lineLow).out.rowsHeld = s.out.rowsHeld := by
  unfold State.lineLow; repeat' split
  all_goals simp
@[simp] theorem State.lineLow_out_pixelsHeld : (s.lineLow).out.pixelsHeld = s.out.pixelsHeld := by
  unfold State.lineLow; repeat' split
  all_goals simp
@[simp] theorem State.lineLow_out_position : (s.lineLow).out.position = s.out.position := by
  unfold State.lineLow; repeat' split
  all_goals simp
@[simp] theorem State.lineLow_out_admission : (s.lineLow).out.admission = s.out.admission := by
  unfold State.lineLow; repeat' split
  all_goals simp
@[simp] theorem State.lineLow_out_delivered : (s.lineLow).out.delivered = s.out.delivered := by
  unfold State.lineLow; repeat' split
  all_goals simp
@[simp] theorem State.lineLow_out_dropped : (s.lineLow).out.dropped = s.out.dropped := by
  unfold State.lineLow; repeat' split
  all_goals simp
@[simp] theorem State.lineLow_out_skip : (s.lineLow).out.skip = s.out.skip := by
  unfold State.lineLow; repeat' split
  all_goals simp
@[simp] theorem State.lineLow_out_accepted : (s.lineLow).out.accepted = s.out.accepted := by
  unfold State.lineLow; repeat' split
  all_goals simp
@[simp] theorem State.lineLow_items : (s.lineLow).items = s.items := by
  unfold State.lineLow; repeat' split
  all_goals simp

/-! ### markFault -/

@[simp] theorem State.markFault_station : (s.markFault).station = s.station := by
  unfold State.markFault; repeat' split
  all_goals simp
@[simp] theorem State.markFault_timer : (s.markFault).timer = s.timer := by
  unfold State.markFault; repeat' split
  all_goals simp
@[simp] theorem State.markFault_roster : (s.markFault).roster = s.roster := by
  unfold State.markFault; repeat' split
  all_goals simp
@[simp] theorem State.markFault_agree : (s.markFault).agree = s.agree := by
  unfold State.markFault; repeat' split
  all_goals simp
@[simp] theorem State.markFault_schedule : (s.markFault).schedule = s.schedule := by
  unfold State.markFault; repeat' split
  all_goals simp
@[simp] theorem State.markFault_meter : (s.markFault).meter = s.meter := by
  unfold State.markFault; repeat' split
  all_goals simp
@[simp] theorem State.markFault_rows : (s.markFault).rows = s.rows := by
  unfold State.markFault; repeat' split
  all_goals simp
@[simp] theorem State.markFault_pending : (s.markFault).pending = s.pending := by
  unfold State.markFault; repeat' split
  all_goals simp
@[simp] theorem State.markFault_port_mode : (s.markFault).port.mode = s.port.mode := by
  unfold State.markFault; repeat' split
  all_goals simp
@[simp] theorem State.markFault_port_items : (s.markFault).port.items = s.port.items := by
  unfold State.markFault; repeat' split
  all_goals simp
@[simp] theorem State.markFault_port_result : (s.markFault).port.result = s.port.result := by
  unfold State.markFault; repeat' split
  all_goals simp
@[simp] theorem State.markFault_port_startError :
    (s.markFault).port.startError = s.port.startError := by
  unfold State.markFault; repeat' split
  all_goals simp
@[simp] theorem State.markFault_out_queue : (s.markFault).out.queue = s.out.queue := by
  unfold State.markFault; repeat' split
  all_goals simp
@[simp] theorem State.markFault_out_controlHeld :
    (s.markFault).out.controlHeld = s.out.controlHeld := by
  unfold State.markFault; repeat' split
  all_goals simp
@[simp] theorem State.markFault_out_rowsHeld : (s.markFault).out.rowsHeld = s.out.rowsHeld := by
  unfold State.markFault; repeat' split
  all_goals simp
@[simp] theorem State.markFault_out_pixelsHeld :
    (s.markFault).out.pixelsHeld = s.out.pixelsHeld := by
  unfold State.markFault; repeat' split
  all_goals simp
@[simp] theorem State.markFault_out_position : (s.markFault).out.position = s.out.position := by
  unfold State.markFault; repeat' split
  all_goals simp
@[simp] theorem State.markFault_out_admission : (s.markFault).out.admission = s.out.admission := by
  unfold State.markFault; repeat' split
  all_goals simp
@[simp] theorem State.markFault_out_delivered : (s.markFault).out.delivered = s.out.delivered := by
  unfold State.markFault; repeat' split
  all_goals simp
@[simp] theorem State.markFault_out_dropped : (s.markFault).out.dropped = s.out.dropped := by
  unfold State.markFault; repeat' split
  all_goals simp
@[simp] theorem State.markFault_out_skip : (s.markFault).out.skip = s.out.skip := by
  unfold State.markFault; repeat' split
  all_goals simp
@[simp] theorem State.markFault_out_accepted : (s.markFault).out.accepted = s.out.accepted := by
  unfold State.markFault; repeat' split
  all_goals simp
@[simp] theorem State.markFault_items : (s.markFault).items = s.items := by
  unfold State.markFault; repeat' split
  all_goals simp

/-! ### sampleBit -/

@[simp] theorem State.sampleBit_timer (l : Level) : (s.sampleBit l).timer = s.timer := by
  unfold State.sampleBit; dsimp only; repeat' split
  all_goals simp
@[simp] theorem State.sampleBit_roster (l : Level) : (s.sampleBit l).roster = s.roster := by
  unfold State.sampleBit; dsimp only; repeat' split
  all_goals simp
@[simp] theorem State.sampleBit_agree (l : Level) : (s.sampleBit l).agree = s.agree := by
  unfold State.sampleBit; dsimp only; repeat' split
  all_goals simp
@[simp] theorem State.sampleBit_schedule (l : Level) : (s.sampleBit l).schedule = s.schedule := by
  unfold State.sampleBit; dsimp only; repeat' split
  all_goals simp
@[simp] theorem State.sampleBit_meter (l : Level) : (s.sampleBit l).meter = s.meter := by
  unfold State.sampleBit; dsimp only; repeat' split
  all_goals simp
@[simp] theorem State.sampleBit_rows (l : Level) : (s.sampleBit l).rows = s.rows := by
  unfold State.sampleBit; dsimp only; repeat' split
  all_goals simp
@[simp] theorem State.sampleBit_pending (l : Level) : (s.sampleBit l).pending = s.pending := by
  unfold State.sampleBit; dsimp only; repeat' split
  all_goals simp
@[simp] theorem State.sampleBit_port_mode (l : Level) :
    (s.sampleBit l).port.mode = s.port.mode := by
  unfold State.sampleBit; dsimp only; repeat' split
  all_goals simp
@[simp] theorem State.sampleBit_port_items (l : Level) :
    (s.sampleBit l).port.items = s.port.items := by
  unfold State.sampleBit; dsimp only; repeat' split
  all_goals simp
@[simp] theorem State.sampleBit_port_result (l : Level) :
    (s.sampleBit l).port.result = s.port.result := by
  unfold State.sampleBit; dsimp only; repeat' split
  all_goals simp
@[simp] theorem State.sampleBit_port_startError (l : Level) :
    (s.sampleBit l).port.startError = s.port.startError := by
  unfold State.sampleBit; dsimp only; repeat' split
  all_goals simp
@[simp] theorem State.sampleBit_out_queue (l : Level) :
    (s.sampleBit l).out.queue = s.out.queue := by
  unfold State.sampleBit; dsimp only; repeat' split
  all_goals simp
@[simp] theorem State.sampleBit_out_controlHeld (l : Level) :
    (s.sampleBit l).out.controlHeld = s.out.controlHeld := by
  unfold State.sampleBit; dsimp only; repeat' split
  all_goals simp
@[simp] theorem State.sampleBit_out_rowsHeld (l : Level) :
    (s.sampleBit l).out.rowsHeld = s.out.rowsHeld := by
  unfold State.sampleBit; dsimp only; repeat' split
  all_goals simp
@[simp] theorem State.sampleBit_out_pixelsHeld (l : Level) :
    (s.sampleBit l).out.pixelsHeld = s.out.pixelsHeld := by
  unfold State.sampleBit; dsimp only; repeat' split
  all_goals simp
@[simp] theorem State.sampleBit_out_position (l : Level) :
    (s.sampleBit l).out.position = s.out.position := by
  unfold State.sampleBit; dsimp only; repeat' split
  all_goals simp
@[simp] theorem State.sampleBit_out_admission (l : Level) :
    (s.sampleBit l).out.admission = s.out.admission := by
  unfold State.sampleBit; dsimp only; repeat' split
  all_goals simp
@[simp] theorem State.sampleBit_out_delivered (l : Level) :
    (s.sampleBit l).out.delivered = s.out.delivered := by
  unfold State.sampleBit; dsimp only; repeat' split
  all_goals simp
@[simp] theorem State.sampleBit_out_dropped (l : Level) :
    (s.sampleBit l).out.dropped = s.out.dropped := by
  unfold State.sampleBit; dsimp only; repeat' split
  all_goals simp
@[simp] theorem State.sampleBit_out_skip (l : Level) : (s.sampleBit l).out.skip = s.out.skip := by
  unfold State.sampleBit; dsimp only; repeat' split
  all_goals simp
@[simp] theorem State.sampleBit_out_accepted (l : Level) :
    (s.sampleBit l).out.accepted = s.out.accepted := by
  unfold State.sampleBit; dsimp only; repeat' split
  all_goals simp
@[simp] theorem State.sampleBit_items (l : Level) : (s.sampleBit l).items = s.items := by
  unfold State.sampleBit; dsimp only; repeat' split
  all_goals simp

/-! ### listenFrame -/

@[simp] theorem State.listenFrame_pending (l : Level) : (s.listenFrame l).pending = s.pending := by
  unfold State.listenFrame; dsimp only; repeat' split
  all_goals simp
@[simp] theorem State.listenFrame_port_mode (l : Level) :
    (s.listenFrame l).port.mode = s.port.mode := by
  unfold State.listenFrame; dsimp only; repeat' split
  all_goals simp
@[simp] theorem State.listenFrame_port_items (l : Level) :
    (s.listenFrame l).port.items = s.port.items := by
  unfold State.listenFrame; dsimp only; repeat' split
  all_goals simp
@[simp] theorem State.listenFrame_port_result (l : Level) :
    (s.listenFrame l).port.result = s.port.result := by
  unfold State.listenFrame; dsimp only; repeat' split
  all_goals simp
@[simp] theorem State.listenFrame_port_startError (l : Level) :
    (s.listenFrame l).port.startError = s.port.startError := by
  unfold State.listenFrame; dsimp only; repeat' split
  all_goals simp
@[simp] theorem State.listenFrame_out_accepted (l : Level) :
    (s.listenFrame l).out.accepted = s.out.accepted := by
  unfold State.listenFrame; dsimp only; repeat' split
  all_goals simp
@[simp] theorem State.listenFrame_out_rowsHeld (l : Level) :
    (s.listenFrame l).out.rowsHeld = s.out.rowsHeld := by
  unfold State.listenFrame; dsimp only; repeat' split
  all_goals simp
@[simp] theorem State.listenFrame_out_pixelsHeld (l : Level) :
    (s.listenFrame l).out.pixelsHeld = s.out.pixelsHeld := by
  unfold State.listenFrame; dsimp only; repeat' split
  all_goals simp
@[simp] theorem State.listenFrame_items (l : Level) : (s.listenFrame l).items = s.items := by
  unfold State.listenFrame; dsimp only; repeat' split
  all_goals simp

/-! ### endStoppedFrame -/

@[simp] theorem State.endStoppedFrame_line : (s.endStoppedFrame).line = s.line := by
  unfold State.endStoppedFrame; repeat' split
  all_goals simp
@[simp] theorem State.endStoppedFrame_round : (s.endStoppedFrame).round = s.round := by
  unfold State.endStoppedFrame; repeat' split
  all_goals simp
@[simp] theorem State.endStoppedFrame_station : (s.endStoppedFrame).station = s.station := by
  unfold State.endStoppedFrame; repeat' split
  all_goals simp
@[simp] theorem State.endStoppedFrame_timer : (s.endStoppedFrame).timer = s.timer := by
  unfold State.endStoppedFrame; repeat' split
  all_goals simp
@[simp] theorem State.endStoppedFrame_roster : (s.endStoppedFrame).roster = s.roster := by
  unfold State.endStoppedFrame; repeat' split
  all_goals simp
@[simp] theorem State.endStoppedFrame_agree : (s.endStoppedFrame).agree = s.agree := by
  unfold State.endStoppedFrame; repeat' split
  all_goals simp
@[simp] theorem State.endStoppedFrame_schedule : (s.endStoppedFrame).schedule = s.schedule := by
  unfold State.endStoppedFrame; repeat' split
  all_goals simp
@[simp] theorem State.endStoppedFrame_port : (s.endStoppedFrame).port = s.port := by
  unfold State.endStoppedFrame; repeat' split
  all_goals simp
@[simp] theorem State.endStoppedFrame_freeCount : (s.endStoppedFrame).freeCount = s.freeCount := by
  unfold State.endStoppedFrame; repeat' split
  all_goals simp
@[simp] theorem State.endStoppedFrame_pending : (s.endStoppedFrame).pending = s.pending := by
  unfold State.endStoppedFrame; repeat' split
  all_goals simp
@[simp] theorem State.endStoppedFrame_out_notices :
    (s.endStoppedFrame).out.notices = s.out.notices := by
  unfold State.endStoppedFrame; repeat' split
  all_goals simp
@[simp] theorem State.endStoppedFrame_out_lost : (s.endStoppedFrame).out.lost = s.out.lost := by
  unfold State.endStoppedFrame; repeat' split
  all_goals simp
@[simp] theorem State.endStoppedFrame_out_accepted :
    (s.endStoppedFrame).out.accepted = s.out.accepted := by
  unfold State.endStoppedFrame; repeat' split
  all_goals simp
@[simp] theorem State.endStoppedFrame_out_controlHeld :
    (s.endStoppedFrame).out.controlHeld = s.out.controlHeld := by
  unfold State.endStoppedFrame; repeat' split
  all_goals simp
@[simp] theorem State.endStoppedFrame_out_rowsHeld :
    (s.endStoppedFrame).out.rowsHeld = s.out.rowsHeld := by
  unfold State.endStoppedFrame; repeat' split
  all_goals simp
@[simp] theorem State.endStoppedFrame_out_pixelsHeld :
    (s.endStoppedFrame).out.pixelsHeld = s.out.pixelsHeld := by
  unfold State.endStoppedFrame; repeat' split
  all_goals simp
@[simp] theorem State.endStoppedFrame_out_delivered :
    (s.endStoppedFrame).out.delivered = s.out.delivered := by
  unfold State.endStoppedFrame; repeat' split
  all_goals simp
@[simp] theorem State.endStoppedFrame_out_dropped :
    (s.endStoppedFrame).out.dropped = s.out.dropped := by
  unfold State.endStoppedFrame; repeat' split
  all_goals simp
@[simp] theorem State.endStoppedFrame_out_skip : (s.endStoppedFrame).out.skip = s.out.skip := by
  unfold State.endStoppedFrame; repeat' split
  all_goals simp
@[simp] theorem State.endStoppedFrame_items : (s.endStoppedFrame).items = s.items := by
  unfold State.endStoppedFrame; repeat' split
  all_goals simp

end Sys2Proof.Machine
end

