-- ==== Sys2Proof/Laws/Words.lean ====
section
/-! SUPPORT. What placing a value in a field of a word does to the word's number: the lemmas for the
layouts of chapter 11. -/

namespace Sys2Proof.Machine

/-- A value placed in bits `hi` to `lo` counts `2 ^ lo` for each of its units. -/
theorem place_toNat {hi lo : Nat} (v : Nat) (h : lo ≤ hi) (top : hi ≤ 31) :
    (place hi lo v).toNat = v % 2 ^ (hi + 1 - lo) * 2 ^ lo := by
  have hlt : v % 2 ^ (hi + 1 - lo) < 2 ^ (hi + 1 - lo) := Nat.mod_lt _ (by positivity)
  have hle : 2 ^ (hi + 1 - lo) * 2 ^ lo ≤ 2 ^ 32 := by
    rw [← pow_add]; exact Nat.pow_le_pow_right (by norm_num) (by omega)
  have hmul : v % 2 ^ (hi + 1 - lo) * 2 ^ lo < 2 ^ 32 :=
    lt_of_lt_of_le ((Nat.mul_lt_mul_right (by positivity)).2 hlt) hle
  have hbase : v % 2 ^ (hi + 1 - lo) < 2 ^ 32 :=
    lt_of_le_of_lt (Nat.le_mul_of_pos_right _ (by positivity)) hmul
  rw [place, BitVec.toNat_shiftLeft, BitVec.toNat_ofNat, Nat.shiftLeft_eq, Nat.mod_eq_of_lt hbase,
    Nat.mod_eq_of_lt hmul]

/-- A value that fits its field is placed whole. -/
theorem place_toNat_of_lt {hi lo v : Nat} (h : lo ≤ hi) (top : hi ≤ 31) (fits : v < 2 ^ (hi + 1 - lo)) :
    (place hi lo v).toNat = v * 2 ^ lo := by
  rw [place_toNat v h top, Nat.mod_eq_of_lt fits]

/-- A one-bit mark placed in bit `i`. -/
theorem placeBit_toNat {i : Nat} (b : Bool) (top : i ≤ 31) :
    (placeBit i b).toNat = b.toNat * 2 ^ i := by
  rw [placeBit, place_toNat_of_lt (le_refl i) top]
  have : i + 1 - i = 1 := by omega
  rw [this]; cases b <;> simp

/-- Two words whose fields do not meet: the numbers add. -/
theorem or_toNat_of_disjoint (a b : Word) (k : Nat) (high : 2 ^ k ∣ a.toNat) (low : b.toNat < 2 ^ k) :
    (a ||| b).toNat = a.toNat + b.toNat := by
  obtain ⟨c, hc⟩ := high
  rw [BitVec.toNat_or, hc, ← Nat.two_pow_add_eq_or_of_lt low]

/-- One more field, below those already in the word. -/
theorem or_place_toNat {w : Word} {n hi lo v : Nat} (hw : w.toNat = n) (above : 2 ^ (hi + 1) ∣ n)
    (h : lo ≤ hi) (top : hi ≤ 31) (fits : v < 2 ^ (hi + 1 - lo)) :
    (w ||| place hi lo v).toNat = n + v * 2 ^ lo := by
  have hp := place_toNat_of_lt h top fits
  have hlt : (place hi lo v).toNat < 2 ^ (hi + 1) := by
    rw [hp]
    calc v * 2 ^ lo < 2 ^ (hi + 1 - lo) * 2 ^ lo := (Nat.mul_lt_mul_right (by positivity)).2 fits
      _ = 2 ^ (hi + 1) := by rw [← pow_add]; congr 1; omega
  rw [or_toNat_of_disjoint _ _ (hi + 1) (hw ▸ above) hlt, hw, hp]

/-- One more mark, below those already in the word. -/
theorem or_placeBit_toNat {w : Word} {n i : Nat} {b : Bool} (hw : w.toNat = n)
    (above : 2 ^ (i + 1) ∣ n) (top : i ≤ 31) : (w ||| placeBit i b).toNat = n + b.toNat * 2 ^ i :=
  or_place_toNat hw above (le_refl i) top (by
    have : i + 1 - i = 1 := by omega
    rw [this]; cases b <;> simp)

end Sys2Proof.Machine
end

