-- ==== Sys2Proof/Laws/Items.lean ====
section
/-! SUPPORT. The ranges of section 10.4 and the checks of START, one named fact each. -/

namespace Sys2Proof.Machine

/-- The ranges of the items, by name. -/
structure ItemRanges (it : Items) : Prop where
  slot : it.slot ≤ 31
  seed : it.seed ≤ 32767
  bitTime : 16 ≤ it.bitTime ∧ it.bitTime ≤ 1023
  rowTime : 64 ≤ it.rowTime ∧ it.rowTime ≤ 65535
  framePeriod : 2 ≤ it.framePeriod ∧ it.framePeriod ≤ 4096
  rowsRead : 1 ≤ it.rowsRead ∧ it.rowsRead ≤ 2048
  rowWidth : 16 ≤ it.rowWidth ∧ it.rowWidth ≤ 4096
  markPatience : 1 ≤ it.markPatience ∧ it.markPatience ≤ 4095
  listenTimeout : 2 ≤ it.listenTimeout ∧ it.listenTimeout ≤ 255
  joinCount : 1 ≤ it.joinCount ∧ it.joinCount ≤ 7
  voidLimit : 2 ≤ it.voidLimit ∧ it.voidLimit ≤ 15
  missLimit : 1 ≤ it.missLimit ∧ it.missLimit ≤ 7
  quorum : 1 ≤ it.quorum ∧ it.quorum ≤ 32
  stepLimit : 1 ≤ it.stepLimit ∧ it.stepLimit ≤ 1024
  initialExv : it.initialExv ≤ 4095
  offset : -2048 ≤ it.offset ∧ it.offset ≤ 2047
  ladderCount : it.ladderCount ≤ 64
  ladderLength : it.ladder.length = 64
  ladder : ∀ st ∈ it.ladder, (st.threshold ≤ 4095 ∧ 1 ≤ st.time ∧ st.time ≤ 4095) ∧ st.gain ≤ 255
  r0 : it.r0 ≤ 2047
  r1 : it.r1 ≤ 2047
  c0 : it.c0 ≤ 4095
  c1 : it.c1 ≤ 4095
  subsample : (it.subsample = 1 ∨ it.subsample = 2) ∨ it.subsample = 4
  minSamples : 16 ≤ it.minSamples ∧ it.minSamples ≤ 65535
  percentile : 1 ≤ it.percentile ∧ it.percentile ≤ 63
  targetBin : 1 ≤ it.targetBin ∧ it.targetBin ≤ 12
  clipLimit : it.clipLimit ≤ 63
  bias : -128 ≤ it.bias ∧ it.bias ≤ 127
  innerBand : it.innerBand ≤ 3
  outerBand : 1 ≤ it.outerBand ∧ it.outerBand ≤ 6
  settleCount : 1 ≤ it.settleCount ∧ it.settleCount ≤ 7

/-- The Bool of section 10.4 is these facts. -/
theorem Items.inRange_iff (it : Items) : it.inRange = true ↔ ItemRanges it := by
  simp only [Items.inRange, Bool.and_eq_true, Bool.or_eq_true, decide_eq_true_eq, beq_iff_eq,
    List.all_eq_true]
  constructor
  · rintro ⟨⟨⟨⟨⟨⟨⟨⟨⟨⟨⟨⟨⟨⟨⟨⟨⟨⟨⟨⟨⟨⟨⟨⟨⟨⟨⟨⟨⟨⟨⟨h1, h2⟩, h3⟩, h4⟩, h5⟩, h6⟩, h7⟩, h8⟩, h9⟩, h10⟩, h11⟩, h12⟩, h13⟩,
      h14⟩, h15⟩, h16⟩, h17⟩, h18⟩, h19⟩, h20⟩, h21⟩, h22⟩, h23⟩, h24⟩, h25⟩, h26⟩, h27⟩, h28⟩, h29⟩,
      h30⟩, h31⟩, h32⟩
    exact ⟨h1, h2, h3, h4, h5, h6, h7, h8, h9, h10, h11, h12, h13, h14, h15, h16, h17, h18, h19, h20,
      h21, h22, h23, h24, h25, h26, h27, h28, h29, h30, h31, h32⟩
  · rintro ⟨h1, h2, h3, h4, h5, h6, h7, h8, h9, h10, h11, h12, h13, h14, h15, h16, h17, h18, h19, h20,
      h21, h22, h23, h24, h25, h26, h27, h28, h29, h30, h31, h32⟩
    exact ⟨⟨⟨⟨⟨⟨⟨⟨⟨⟨⟨⟨⟨⟨⟨⟨⟨⟨⟨⟨⟨⟨⟨⟨⟨⟨⟨⟨⟨⟨⟨h1, h2⟩, h3⟩, h4⟩, h5⟩, h6⟩, h7⟩, h8⟩, h9⟩, h10⟩, h11⟩, h12⟩, h13⟩,
      h14⟩, h15⟩, h16⟩, h17⟩, h18⟩, h19⟩, h20⟩, h21⟩, h22⟩, h23⟩, h24⟩, h25⟩, h26⟩, h27⟩, h28⟩, h29⟩,
      h30⟩, h31⟩, h32⟩

/-- The ranges by name. -/
theorem Items.ranges {it : Items} (h : it.inRange = true) : ItemRanges it := it.inRange_iff.1 h

/-- What START's checks leave true (R161). -/
structure StartChecked (it : Items) : Prop where
  geometry : it.rowsRead < it.framePeriod
  width : it.rowWidth % 2 = 0
  round : 240 * it.bitTime ≤ it.framePeriod * it.rowTime
  ladder : it.ladderGood = true
  rows : it.r0 ≤ it.r1 ∧ it.r1 < it.rowsRead
  columns : it.c0 ≤ it.c1 ∧ it.c1 < it.rowWidth
  bands : it.innerBand < it.outerBand

/-- START passes exactly when all five checks hold. -/
theorem Items.startCheck_none_iff (it : Items) : it.startCheck = .none ↔ StartChecked it := by
  unfold Items.startCheck
  constructor
  · intro h
    split at h; · cases h
    split at h; · cases h
    split at h; · cases h
    split at h; · cases h
    split at h; · cases h
    rename_i h1 h2 h3 h4 h5
    simp only [not_or, not_not] at h1 h3 h4 h5
    exact ⟨h1.1, by omega, by omega, h3, by omega, by omega, h5⟩
  · rintro ⟨h1, h2, h3, h4, h5, h6, h7⟩
    rw [if_neg (by omega), if_neg (by omega), if_neg (by simp [h4]), if_neg (by omega),
      if_neg (by omega)]

end Sys2Proof.Machine
end

