-- ==== Sys2Proof/Laws/PerInstr.lean ====
section
/-! SUPPORT. The family Carriage: what the control port's bytes say of each row of the opcode table. -/

namespace Sys2Proof.Laws.Carriage

/-- A host command acts on no proper prefix of its bytes (R156); a row without bytes of its own is
spelled by no bytes at all. -/
def Statement (i : Instr) : Prop :=
  match transactionBytes i with
  | some bytes => ∀ (m : Level) (n : Nat), n < bytes.length → decodeTransaction m (bytes.take n) = none
  | none => ∀ (m : Level) (bytes : List Byte), decodeTransaction m bytes ≠ some i

/-- What the port decodes has bytes of its own. -/
theorem bytes_of_decoded (i : Instr) (m : Level) (bytes : List Byte)
    (h : decodeTransaction m bytes = some i) : (transactionBytes i).isSome = true := by
  unfold decodeTransaction at h
  repeat' split at h
  all_goals first
    | (cases h; rfl)
    | cases h

/-- A row without bytes is decoded from none. -/
theorem of_no_bytes {i : Instr} (h : transactionBytes i = none) : Statement i := by
  simp only [Statement, h]
  intro m bytes hd
  simpa [h] using bytes_of_decoded i m bytes hd

/-- A one-byte command has the empty prefix alone. -/
theorem of_one_byte {i : Instr} {code : Byte} (h : transactionBytes i = some [code]) : Statement i := by
  simp only [Statement, h]
  intro m n hn
  obtain rfl : n = 0 := by simpa using hn
  rfl

theorem readItem (index : Byte) : Statement (.readItem index) := by
  intro m n hn
  match n, hn with
  | 0, _ => rfl
  | 1, _ => rfl

theorem writeItem (index : Byte) (word : Word) : Statement (.writeItem index word) := by
  intro m n hn
  match n, hn with
  | 0, _ => rfl
  | 1, _ => rfl
  | 2, _ => rfl
  | 3, _ => rfl
  | 4, _ => rfl
  | 5, _ => rfl

theorem readRoster (index : Byte) : Statement (.readRoster index) := by
  intro m n hn
  match n, hn with
  | 0, _ => rfl
  | 1, _ => rfl

theorem readStatus : Statement .readStatus := of_one_byte rfl

theorem start (mark : Level) : Statement (.start mark) := of_one_byte rfl

theorem stop : Statement .stop := of_one_byte rfl

theorem holdOn : Statement .holdOn := of_one_byte rfl

theorem holdOff : Statement .holdOff := of_one_byte rfl

theorem unknownCommandByte (code : Byte) : Statement (.unknownCommandByte code) := of_one_byte rfl

theorem transactionAbandoned : Statement .transactionAbandoned := of_no_bytes rfl

theorem powerOnReset : Statement .powerOnReset := of_no_bytes rfl

theorem mark (atWindowClose : Bool) : Statement (.mark atWindowClose) := of_no_bytes rfl

theorem markHold : Statement .markHold := of_no_bytes rfl

theorem markDriveFault (level : Level) : Statement (.markDriveFault level) := of_no_bytes rfl

theorem windowClose : Statement .windowClose := of_no_bytes rfl

theorem localWindowClose : Statement .localWindowClose := of_no_bytes rfl

theorem rowSlotEnd : Statement .rowSlotEnd := of_no_bytes rfl

theorem readEnd : Statement .readEnd := of_no_bytes rfl

theorem deadline : Statement .deadline := of_no_bytes rfl

theorem expiry : Statement .expiry := of_no_bytes rfl

theorem patienceExpiry (mark : Level) : Statement (.patienceExpiry mark) := of_no_bytes rfl

theorem delivery (atReadEnd : Bool) : Statement (.delivery atReadEnd) := of_no_bytes rfl

theorem sensorCommandSend : Statement .sensorCommandSend := of_no_bytes rfl

theorem outputWordAccept : Statement .outputWordAccept := of_no_bytes rfl

theorem noticeMove : Statement .noticeMove := of_no_bytes rfl

theorem roundBitStart : Statement .roundBitStart := of_no_bytes rfl

theorem roundBitSample (level : Level) : Statement (.roundBitSample level) := of_no_bytes rfl

theorem roundEnd : Statement .roundEnd := of_no_bytes rfl

theorem markFall : Statement .markFall := of_no_bytes rfl

theorem waitTimerTick : Statement .waitTimerTick := of_no_bytes rfl

theorem deliveryOpen (atReadEnd : Bool) : Statement (.deliveryOpen atReadEnd) := of_no_bytes rfl

theorem deliveryWord (word : Pixel) : Statement (.deliveryWord word) := of_no_bytes rfl

theorem lastDataByteSent : Statement .lastDataByteSent := of_no_bytes rfl

theorem resetRelease (selHigh : Bool) : Statement (.resetRelease selHigh) := of_no_bytes rfl

end Sys2Proof.Laws.Carriage
end

