-- ==== Sys2Proof/Tests/Slice0.lean ====
section
/-! SUPPORT. Small tests: the refused command of WellFormed, the manual's worked examples, and for every
obligation with hypotheses a state that meets them (`witness_…`). -/

namespace Sys2Proof.Tests

open Sys2Proof Sys2Proof.Machine

set_option Elab.async false

/-! ### Well-formedness and bytes -/

/-- A named command's code is no unknown command byte (R156). -/
theorem test_wellFormed_refuses_named_code :
    (Instr.unknownCommandByte 0x02).wellFormed = false
      ∧ (Instr.unknownCommandByte 0x03).wellFormed = true := by decide

/-- Section 11.3, writing ladder step 2: 02h, 82h, 00h, 80h, 01h, 68h. -/
theorem test_write_item_bytes :
    decodeTransaction .recessive [0x02, 0x82, 0x00, 0x80, 0x01, 0x68]
      = some (.writeItem 0x82 0x00800168) := by decide

/-- R156: a write short of its last data byte acts on nothing. -/
theorem test_write_item_short :
    decodeTransaction .recessive [0x02, 0x82, 0x00, 0x80, 0x01] = none := by decide

/-- R168: START is 10h; 03h names no command. -/
theorem test_start_and_unknown_bytes :
    decodeTransaction .dominant [0x10] = some (.start .dominant)
      ∧ decodeTransaction .dominant [0x03] = some (.unknownCommandByte 0x03) := by decide

/-- R156: eight bits to a byte, most significant first; 11h is STOP, and seven bits are no byte. -/
theorem test_serial_bits :
    serialBits 0x11 = [false, false, false, true, false, false, false, true]
      ∧ bytesOfBits [] (serialBits 0x11 ++ serialBits 0x82) = [0x11, 0x82]
      ∧ bytesOfBits [] ((serialBits 0x11).take 7) = [] := by decide

/-! ### Worked examples of the manual -/

/-- Section 1.5: offers 1500, 1450 and 1460 in a MIN and a MAX field. -/
theorem test_contest_example :
    minContestRead 12 [1500, 1450, 1460] = 1450 ∧ maxContestRead 12 [1500, 1450, 1460] = 1500
      ∧ (contestRun 12 [(.inField, 1500), (.inField, 1450), (.inField, 1460)]).2
        = [.lost, .inField, .lost] := by decide

/-- R24, the first nonces after seed 1: 0000, 0000, 0000, 0110, leaving bits 2 and 1 set. -/
theorem test_first_nonces :
    drawNonce 0x0001 = (0, 0x0010) ∧ drawNonce 0x0010 = (0, 0x0100) ∧ drawNonce 0x0100 = (0, 0x1000)
      ∧ drawNonce 0x1000 = (6, 0x0006) := by decide

/-- R30: recessive, recessive, dominant take the preset to FEh, FCh, FFh. -/
theorem test_check_register :
    crcOf [.recessive] = 0xFE ∧ crcOf [.recessive, .recessive] = 0xFC
      ∧ crcOf [.recessive, .recessive, .dominant] = 0xFF := by decide

/-- A dominant bit, then recessive ones. -/
def ledBits (n : Nat) : List Level := .dominant :: List.replicate n .recessive

/-- The round of section 2.12 as all three stations read it, C being any value of the check field. -/
def sampleRound : List Level :=
  List.flatten
    [ ledBits 10, natToLevels 5 0b00110, List.replicate 10 .recessive, natToLevels 5 0b01011,
      List.replicate 15 .recessive, natToLevels 5 0b00001, List.replicate 110 .recessive,
      natToLevels 16 0b1111111001011110, [.recessive, .dominant], natToLevels 12 2048, [.dominant],
      natToLevels 12 1900, [.dominant], natToLevels 12 0b011110100011, List.replicate 9 .recessive ]

/-- Section 2.12: the fields read slots 2, 5 and 9, 417, 2048, 1900 and 2140. -/
theorem test_round_fields :
    sampleRound.length = 226 ∧ rollOf sampleRound = [(2, 6), (5, 11), (9, 1)]
      ∧ maxValueRead sampleRound 161 16 = 417 ∧ valueRead sampleRound 179 12 = 2048
      ∧ valueRead sampleRound 192 12 = 1900 ∧ maxValueRead sampleRound 205 12 = 2140 := by
  decide +kernel

/-- Section 3.6: the ladder of the example. -/
def exampleLadder (offset : Int) : Items :=
  { Items.default with
    offset := offset, ladderCount := 5
    ladder := [⟨0, 2, 0⟩, ⟨1024, 45, 0⟩, ⟨2048, 360, 0⟩, ⟨2064, 720, 0⟩, ⟨2080, 720, 32⟩]
      ++ List.replicate 59 ⟨0, 1, 0⟩ }

/-- Section 3.6: array EXV 2060 takes step 2, with offset 8 step 3, with offset -2048 step 0. -/
theorem test_ladder_example :
    (makeEntry (exampleLadder 0) 0 0 .local 2060 none).step = 2
      ∧ (makeEntry (exampleLadder 8) 0 0 .local 2060 none).step = 3
      ∧ (makeEntry (exampleLadder (-2048)) 0 0 .local 2060 none).localExv = 12
      ∧ (makeEntry (exampleLadder (-2048)) 0 0 .local 2060 none).time = 2 := by decide

/-- Section 6.9: after the close of round 603 the record is MISSING with count 2; round 604 makes it LOST;
round 609 makes it PRESENT with arrival 609. -/
theorem test_roster_example :
    PeerRecord.absent 3 ⟨.missing, 2, some ⟨600, 412, 13⟩⟩ = ⟨.lost, 3, some ⟨600, 412, 13⟩⟩
      ∧ PeerRecord.present ⟨.lost, 3, some ⟨600, 412, 13⟩⟩ 609 6
        = ⟨.present, 0, some ⟨609, 609, 6⟩⟩ := by decide

/-- Section 7.8: the bins of frame 2205, then with a bright object. -/
def frame2205 (bin12 bin13 : Nat) : Meter :=
  ⟨.collecting, some (2205, 2080),
    [1200, 1800, 3000, 4800, 7200, 9600, 10400, 9000, 8000, 7000, 6000, 4800, bin12, bin13],
    76800, 240, .seeking, 0, none⟩

/-- Section 7.8: percentile bin 7, error 1, D = 2088; with the clip rule error -1 and D = 2072. -/
theorem test_meter_example :
    ((frame2205 3000 1000).result Items.default false).percentileBin = some 7
      ∧ ((frame2205 3000 1000).result Items.default false).error = some 1
      ∧ ((frame2205 3000 1000).result Items.default false).desired = some 2088
      ∧ ((frame2205 1000 3000).result Items.default false).error = some (-1)
      ∧ ((frame2205 1000 3000).result Items.default false).desired = some 2072 := by decide

/-- Section 7.9: frames 100, 101, 102, 104 and 107. -/
theorem test_settling_example :
    settleAfter Items.default .seeking 0 (some 1) = (.seeking, 1)
      ∧ settleAfter Items.default .seeking 1 (some (-1)) = (.settled, 0)
      ∧ settleAfter Items.default .settled 0 (some 2) = (.settled, 0)
      ∧ settleAfter Items.default .settled 0 (some 3) = (.seeking, 0)
      ∧ settleAfter Items.default .seeking 1 none = (.seeking, 0) := by decide

/-- Section 8.11: frame F, time 5, before frame F + 1, time 10, with T = 12 and H = 8. -/
def sensorItems : Items := { Items.default with framePeriod := 12, rowsRead := 8 }

/-- Section 8.11: the row engine of frame F. -/
def sensorFrame : RowEngine :=
  { RowEngine.powerOn with phase := .frame, current := some ⟨0, 5, 20, 0⟩, nextTime := some 10 }

/-- Section 8.11: slots 0, 2, 8 and 10 of frame F. -/
theorem test_slot_commands_example :
    slotCommands sensorItems sensorFrame 0 = [.read 0, .reset 5]
      ∧ slotCommands sensorItems sensorFrame 2 = [.read 2, .reset 7, .reset 0]
      ∧ slotCommands sensorItems sensorFrame 8 = [.reset 6]
      ∧ slotCommands sensorItems sensorFrame 10 = [] := by decide

/-- R170: READ 3, RESET 7 and GAIN 20. -/
theorem test_sensor_words :
    (SensorCommand.read 3).word = 0x4003 ∧ (SensorCommand.reset 7).word = 0x0007
      ∧ (SensorCommand.gain 20).word = 0x8014 := by decide

/-- Section 11.3: 00800168h, 80800168h and 00800000h written to ladder step 2. -/
theorem test_item_word_example :
    ((Items.default.write 0x82 0x00800168).map (·.ladder[2]?)) = some (some ⟨2048, 360, 0⟩)
      ∧ ((Items.default.write 0x82 0x80800168).map (·.ladder[2]?)) = some (some ⟨2048, 360, 128⟩)
      ∧ Items.default.write 0x82 0x00800000 = none := by decide

/-- Section 10.9: H = 1000 with T = 1000 fails check 1; the defaults pass. -/
theorem test_start_check_example :
    ({ Items.default with rowsRead := 1000 }).startCheck = .badGeometry
      ∧ Items.default.startCheck = .none := by decide

/-! ### States for the witnesses -/

/-- The state after a command that completes. -/
def after (c : Instr) (s : State) : State :=
  match exec c s with
  | .next t => t
  | .fault _ | .refused _ => s

/-- The command answers a next state. -/
def completes (c : Instr) (s : State) : Bool :=
  match exec c s with
  | .next _ => true
  | .fault _ | .refused _ => false

/-- A small geometry that passes every check of START: T = 5, H = 3, W = 16. -/
def small : Items :=
  { Items.default with
    bitTime := 16, rowTime := 1000, framePeriod := 5, rowsRead := 3, rowWidth := 16, markPatience := 2
    listenTimeout := 2, joinCount := 1, voidLimit := 2, missLimit := 2
    ladder := ⟨0, 2, 7⟩ :: List.replicate 63 ⟨0, 1, 0⟩
    r1 := 2, c1 := 15, subsample := 1, minSamples := 16 }

/-- Reset with these items. -/
def off (it : Items) : State :=
  { State.reset with port := { State.reset.port with items := it } }

/-- The lead-in, MARK having read dominant at START. -/
def leadIn : State := after (.start .dominant) (off small)

/-- Frame 0, opened by a mark that cut the lead-in; its round is heard. -/
def heardFrame : State := after (.mark false) leadIn

/-- Slot k of frame 0 with no round, in a station state. -/
def slotOf (st : StationState) (k : Nat) (readEndPassed : Bool) : State :=
  { heardFrame with
    station := { heardFrame.station with state := st }
    round := { heardFrame.round with window := .closed }
    line := { heardFrame.line with markReference := some .dominant, roundInProgress := false }
    schedule := heardFrame.schedule ++ [makeEntry small 2 0 .local 2048 none]
    timer := { heardFrame.timer with phase := .counting k, readEndPassed := readEndPassed }
    meter := { heardFrame.meter with phase := if readEndPassed then .done else .collecting } }

/-- The wait of frame 0, at its last row time before the patience. -/
def waiting (st : StationState) : State :=
  { slotOf st 4 true with timer := { (slotOf st 4 true).timer with phase := .wait 1 } }

/-- A driven round of a SYNCED station, opened at the end of that wait. -/
def drivenRound : State := after (.mark false) (waiting .synced)

/-- A round with these bits sampled. -/
def sampled (s : State) (bits : List Level) : State :=
  { s with round := { s.round with draft := { s.round.draft with bits := bits } } }

/-- A round heard in LISTEN with no station in its roll, MARK having since read dominant. -/
def heardEmpty : State :=
  after .markFall (sampled (after (.mark false) (waiting .listen)) (.dominant :: List.replicate 225 .recessive))

/-- As `sampled`, and TALLY pulled in the bit now sent. -/
def pulling (s : State) (bits : List Level) : State :=
  { sampled s bits with line := { s.line with tallyDrive := .pulled } }

/-- The station state in which the witnesses of a driven round stand. -/
theorem test_driven_round_is_driven : drivenRound.drivesNow = true := by decide

/-- Section 10.9, the second status read: LISTEN, NONE, attention set; then the flag is cleared. -/
theorem test_status_after_start :
    (after .readStatus leadIn).port.dataWord = some 0x20400000
      ∧ (after .lastDataByteSent (after .readStatus leadIn)).port.attention = false := by decide +kernel

/-- R156, R157: the second status read of section 10.9 returns its word's bytes, then zero; the first byte of
the next transaction is OK. -/
theorem test_sdo_bytes :
    ((List.range 6).map (after .readStatus leadIn).port.sdoByte) = [0x20, 0x40, 0x00, 0x00, 0x00, 0x00]
      ∧ (after .lastDataByteSent (after .readStatus leadIn)).port.firstByte = 0x00
      ∧ (after (.writeItem 0x05 900) leadIn).port.firstByte = 0x01 := by decide +kernel

/-- R5, third bullet: a line read recessive in the hold gives no mark at the release or after it. -/
theorem test_no_rise_after_a_faulted_hold :
    let released := after .expiry (after (.mark false) (after .markHold (slotOf .synced 4 true)))
    released.line.markDrive = .released ∧ released.line.markReference = some .recessive
      ∧ (after (.mark false) released).timer.phase = .wait 0 := by decide +kernel

/-- R9, last paragraph: the mark at the instant of a close that joined opens the new round, which the station
drives, with MARK released for two bit times (R65); no other recessive read in the hold is a mark. -/
theorem test_mark_at_a_join :
    let joined := after .windowClose heardEmpty
    let opened := after (.mark true) joined
    joined.station.state = .joining ∧ joined.line.markDrive = .pulled
      ∧ opened.round.window = .marked ∧ opened.timer.startKind = some .cut
      ∧ opened.line.driving = true ∧ opened.line.markDrive = .released
      ∧ (after .markHold opened).line.markDrive = .pulled
      ∧ (after (.mark false) joined).round.window = .closed
      ∧ (after (.mark true) (after (.markDriveFault .dominant) joined)).round.window = .closed := by decide +kernel

/-- Section 9.7: with 3 control entries free HEAD 42 is admitted, with 1 free frame 43 is skipped. -/
theorem test_stalled_consumer :
    let held (n : Nat) : OutputUnit :=
      (({ leadIn with out := { leadIn.out with controlHeld := n } }).offerHead .vacant).out
    (held 5).admission = .admitted ∧ (held 5).controlHeld = 7 ∧ (held 7).admission = .skipped
      ∧ (held 7).controlHeld = 7 ∧ (held 7).skip = 1 := by decide +kernel

/-- Section 1.5, two stations in one slot: the station that reads another's bit dominant goes to BARRED. -/
theorem test_echo_mismatch_bars :
    exec (.roundBitSample .dominant) (sampled drivenRound (ledBits 4))
      = .next (after (.roundBitSample .dominant) (sampled drivenRound (ledBits 4)))
      ∧ (sampled drivenRound (ledBits 4)).mismatchAt .dominant = true
      ∧ (sampled drivenRound (ledBits 4)).mismatchAt .recessive = false := by
  refine ⟨rfl, ?_⟩
  decide +kernel

/-! ### Witnesses -/

theorem witness_StepRunsFrontCommand :
    ({ State.reset with pending := [.stop] }).pending = .stop :: [] ∧ State.reset.pending = [] := by
  decide +kernel

theorem witness_PowerOnResetHoldsThePort :
    (after .powerOnReset State.reset).port.mode = .heldIdle
      ∧ (after (.resetRelease false) (after .powerOnReset State.reset)).port.mode = .awaitSelHigh
      ∧ State.reset.port.mode ≠ .heldIdle := by decide +kernel

theorem witness_HoldCommandsAndVoidTransactions : State.reset.port.mode = .ready := by decide +kernel

/-- Each clause at the ends of its range of indices. -/
theorem witness_ReadItemTakesTheWord :
    State.reset.port.mode = .ready ∧ State.reset.items.inRange = true
      ∧ State.reset.port.counters.toList[0]? = some 0 ∧ State.reset.port.counters.toList[7]? = some 0
      ∧ (0xE7 : Byte).toNat = 0xE0 + 7 ∧ (0x1D : Byte).toNat < 0x1E ∧ (0xBF : Byte).toNat < 0xC0
      ∧ 0x1E ≤ (0x1E : Byte).toNat ∧ (0x7F : Byte).toNat < 0x80 ∧ 0xC0 ≤ (0xDF : Byte).toNat
      ∧ (0xDF : Byte).toNat < 0xE0 ∧ 0xE8 ≤ (0xE8 : Byte).toNat ∧ 0xE8 ≤ (0xFF : Byte).toNat := by
  decide +kernel

theorem witness_ItemWordsAndTheirRanges :
    Items.default.inRange = true ∧ Items.default.ladder[0]? = some ⟨0, 500, 0⟩
      ∧ Items.default.ladder[63]? = some ⟨0, 1, 0⟩ ∧ 63 < 64 := by decide +kernel

theorem witness_WrittenItemReadsBack :
    Items.default.inRange = true ∧ isConfigIndex 0x82 = true
      ∧ Items.default.write 0x82 0x00800168
        = some ((Items.default.write 0x82 0x00800168).getD .default) ∧ 0x83 ≠ 0x82 := by decide +kernel

/-- The indices where the clauses meet; OFF and LISTEN; a word refused and one taken. -/
theorem witness_WriteItemByFirstCase :
    State.reset.port.mode = .ready ∧ leadIn.port.mode = .ready
      ∧ ¬ ((0x1E : Byte).toNat < 0x1E ∨ 0x80 ≤ (0x1E : Byte).toNat ∧ (0x1E : Byte).toNat < 0xC0)
      ∧ ((0x1D : Byte).toNat < 0x1E ∨ 0x80 ≤ (0x1D : Byte).toNat ∧ (0x1D : Byte).toNat < 0xC0)
      ∧ leadIn.station.state ≠ .off ∧ State.reset.station.state = .off
      ∧ State.reset.items.write 0x1D 0 = none
      ∧ State.reset.items.write 0x1D 7 = some ((State.reset.items.write 0x1D 7).getD .default) := by
  decide +kernel

/-- Each clause at the ends of its range of indices. -/
theorem witness_ReadRosterTakesTheWord :
    State.reset.port.mode = .ready ∧ State.reset.roster.length = 32
      ∧ State.reset.roster[(31 : Byte).toNat]? = some ⟨.absent, 0, none⟩ ∧ (31 : Byte).toNat < 32
      ∧ (63 : Byte).toNat = 32 + 31 ∧ (64 : Byte).toNat = 64 ∧ (66 : Byte).toNat = 66
      ∧ 67 ≤ (67 : Byte).toNat ∧ 67 ≤ (255 : Byte).toNat := by decide +kernel

theorem witness_ReadStatusTakesTheWord : leadIn.port.mode = .ready := by decide +kernel

theorem witness_LastDataByteCompletesTheRead :
    (after .readStatus State.reset).port.transaction = some ⟨[0x20], 0, .ok, true, false⟩
      ∧ State.reset.port.transaction = none
      ∧ State.reset.port.mode = .ready
      ∧ completes .readStatus State.reset = true
      ∧ completes .lastDataByteSent (after .readStatus State.reset) = true
      ∧ completes .lastDataByteSent
        ((after .readStatus State.reset).createNotice ⟨0, .lineLow⟩) = true := by decide +kernel

theorem witness_TransactionBytesDecode :
    (Instr.unknownCommandByte 0x03).wellFormed = true
      ∧ transactionBytes (.unknownCommandByte 0x03) = some [0x03]
      ∧ (Instr.start .dominant).wellFormed = true ∧ transactionBytes (.start .dominant) = some [0x10]
      ∧ ([0x82, 0, 0, 0] : List Byte).length < 5 ∧ (List.replicate 7 true).length < 8 := by decide +kernel

/-- One configuration for each check that fails first, at the boundary of the check, and one that passes. -/
theorem witness_StartIsRefusedByTheFirstFailingCheck :
    (off small).port.mode = .ready ∧ (off small).station.state = .off ∧ leadIn.station.state ≠ .off
      ∧ small.inRange = true ∧ small.startCheck = .none
      ∧ (∀ p ∈ [({ small with rowsRead := 5 }, StartError.badGeometry),
          ({ small with rowTime := 767 }, .roundTooLong),
          ({ small with ladder := ⟨0, 5, 0⟩ :: List.replicate 63 ⟨0, 1, 0⟩ }, .badLadder),
          ({ small with r1 := 3 }, .badWindow), ({ small with innerBand := 2 }, .badBands)],
        p.1.inRange = true ∧ p.1.startCheck = p.2) := by decide +kernel

theorem witness_StartBeginsTheLeadIn :
    (off small).port.mode = .ready ∧ (off small).station.state = .off
      ∧ (off small).items.inRange = true ∧ (off small).items.startCheck = .none := by decide +kernel

theorem witness_StopEndsTheRun :
    (off small).port.mode = .ready ∧ (off small).station.state = .off
      ∧ heardFrame.port.mode = .ready ∧ heardFrame.station.state ≠ .off ∧ heardFrame.sound = true
      ∧ heardFrame.countsInRange = true ∧ heardFrame.timer.readEndPassed = false := by decide +kernel

/-- The first slot, the slot of the read end, and the last. -/
theorem witness_SlotEndsIssueReadsAndResets :
    (∀ p ∈ [(0, false), (3, true), (4, true)],
      (slotOf .synced p.1 p.2).timer.phase = .counting p.1
        ∧ p.1 < (slotOf .synced p.1 p.2).items.framePeriod
        ∧ (slotOf .synced p.1 p.2).rows.phase = .frame
        ∧ (slotOf .synced p.1 p.2).rows.current = some ⟨0, 2, 7, 2048⟩
        ∧ (slotOf .synced p.1 p.2).rows.nextTime = some 2
        ∧ (slotOf .synced p.1 p.2).rows.pendingRow = none
        ∧ (slotOf .synced p.1 p.2).timer.readEndPassed = p.2) ∧
    (leadIn.timer.phase = .leadIn 0 ∧ leadIn.rows.phase = .leadIn ∧ leadIn.rows.current = none
      ∧ leadIn.rows.nextTime = some 2 ∧ leadIn.station.state = .listen
      ∧ 0 < leadIn.items.framePeriod) := by decide +kernel

/-- Row H - 1 pending at the end of slot H, then row 0 pending one slot before its deadline. -/
theorem witness_DeadlineComesBeforeTheSlotsCommands :
    let pending (row : Nat) : State := { slotOf .synced 3 false with
      rows := { (slotOf .synced 3 false).rows with pendingRow := some ⟨row, row + 1⟩ } }
    (pending 2).timer.phase = .counting 3 ∧ (pending 2).rows.pendingRow = some ⟨2, 3⟩
      ∧ (pending 2).timer.readEndPassed = false ∧ 3 = (pending 2).items.rowsRead
      ∧ (pending 3).rows.pendingRow = some ⟨3, 4⟩ ∧ 4 ≠ 3
      ∧ completes .deadline (pending 2) = true
      ∧ completes .readEnd (after .deadline (pending 2)) = true := by decide +kernel

theorem witness_ReadEndOffersTheTail :
    (slotOf .synced 3 false).timer.phase = .counting (slotOf .synced 3 false).items.rowsRead
      ∧ (slotOf .synced 3 false).timer.readEndPassed = false
      ∧ (slotOf .synced 3 false).rows.pendingRow = none
      ∧ (slotOf .synced 3 false).meter.phase = .collecting
      ∧ (slotOf .synced 3 true).timer.readEndPassed = true
      ∧ (slotOf .synced 2 false).timer.phase = .counting 2 ∧ 2 ≠ (slotOf .synced 2 false).items.rowsRead := by
  decide +kernel

/-- With and without samples. -/
theorem witness_ReadEndBuildsTheMeterResult :
    let full : State := { slotOf .synced 3 false with
      meter := { (slotOf .synced 3 false).meter with
        samples := 48, windowRows := 3, bins := [0, 0, 0, 0, 0, 0, 0, 48, 0, 0, 0, 0, 0, 0] } }
    ∀ s ∈ [full, slotOf .synced 3 false], s.timer.phase = .counting s.items.rowsRead
      ∧ s.timer.readEndPassed = false ∧ s.meter.phase = .collecting
      ∧ s.meter.frame = some (0, 2048) ∧ s.meter.bins.length = 14 ∧ s.meter.bins.sum = s.meter.samples
      ∧ s.items.inRange = true ∧ s.items.r0 ≤ s.items.r1 := by decide +kernel

/-- One row time before the patience, and at it. -/
theorem witness_WaitTimerCountsRowTimes :
    (waiting .listen).timer.phase = .wait 1 ∧ 1 < (waiting .listen).items.markPatience
      ∧ (after .waitTimerTick (waiting .listen)).timer.phase = .wait 2
      ∧ (waiting .listen).items.markPatience ≤ 2 := by decide +kernel

/-- A driver, a listener, and a part in OFF or past the event. -/
theorem witness_MarkHoldPullsMark :
    drivenRound.station.state ≠ .off ∧ drivenRound.line.roundClock = some 0
      ∧ heardFrame.station.state = .listen ∧ heardFrame.line.roundClock = some 0
      ∧ State.reset.station.state = .off
      ∧ (after .markHold drivenRound).line.roundClock ≠ some 0 := by decide +kernel

/-- OFF; a hold, in its first slot and in the last slot of a frame; a reference that is recessive. -/
theorem witness_MarkNeedsARise :
    let held := after .markHold (slotOf .synced 4 true)
    leadIn.station.state ≠ .off ∧ State.reset.station.state = .off
      ∧ (after .markHold drivenRound).line.markDrive = .pulled
      ∧ (after .markHold drivenRound).station.state ≠ .off
      ∧ (after .markHold drivenRound).line.referenceAtJoin ≠ some .dominant
      ∧ held.line.referenceAtJoin ≠ some .dominant
      ∧ heardFrame.line.markDrive = .released ∧ heardFrame.line.markReference ≠ some .dominant
      ∧ heardFrame.station.state ≠ .off
      ∧ held.station.state.drives = true ∧ held.line.markDrive = .pulled
      ∧ held.timer.phase = .counting (held.items.framePeriod - 1)
      ∧ held.items.rowsRead < held.items.framePeriod ∧ completes (.mark false) held = true := by decide +kernel

theorem witness_HeldMarkIsChecked :
    drivenRound.line.markDrive = .released
      ∧ (after .markHold drivenRound).line.markDrive = .pulled := by decide +kernel

/-- The lead, the first and last bits of the own slot, and the void bit. -/
theorem witness_BitStartDrivesTheFields :
    ∀ n ∈ [0, 1, 5, 225], let s := sampled drivenRound (List.replicate n .recessive)
      s.station.state ≠ .off ∧ s.line.roundInProgress = true ∧ s.round.window = .marked
      ∧ s.round.offers = some ⟨true, false, 2048, none, ⟨false, none⟩, none⟩
      ∧ n = s.round.draft.bits.length ∧ n < 226 ∧ s.items.slot ≤ 31 := by decide +kernel

/-- A listener at bit 0, and a driver outside its slot at bit 225. -/
theorem witness_SampleFeedsRecordAndCheck :
    (heardFrame.station.state ≠ .off ∧ heardFrame.line.roundInProgress = true
      ∧ heardFrame.round.window = .marked ∧ heardFrame.round.offers.isSome = true
      ∧ heardFrame.round.draft.bits.length = 0 ∧ heardFrame.drivesNow = false) ∧
    (let s := sampled drivenRound (List.replicate 225 .recessive)
     s.drivesNow = true ∧ s.line.tallyDrive = .released ∧ s.round.draft.bits.length = 225
      ∧ s.round.offers.isSome = true ∧ ¬ 225 ≤ 5 + 5 * s.items.slot) := by decide +kernel

/-- Bit 6, just past the own slot, and the void bit. -/
theorem witness_TallyDriveFaultVotesVoid :
    ∀ n ∈ [0, 6, 225], let s := pulling drivenRound (List.replicate n .recessive)
      s.drivesNow = true ∧ s.line.roundInProgress = true ∧ s.round.window = .marked
      ∧ s.round.offers = some ⟨true, false, 2048, none, ⟨false, none⟩, none⟩
      ∧ n = s.round.draft.bits.length ∧ n < 226 ∧ s.items.slot ≤ 31 ∧ s.line.tallyDrive = .pulled
      ∧ ¬ (1 + 5 * s.items.slot ≤ n ∧ n ≤ 5 + 5 * s.items.slot) := by decide +kernel

/-- The presence bit driven and read recessive, and the last nonce bit released and read dominant. -/
theorem witness_EchoMismatchBarsTheStation :
    (∀ n ∈ [1, 5], (sampled drivenRound (List.replicate n .recessive)).drivesNow = true
      ∧ (sampled drivenRound (List.replicate n .recessive)).line.roundInProgress = true
      ∧ (sampled drivenRound (List.replicate n .recessive)).round.window = .marked
      ∧ 1 + 5 * drivenRound.items.slot ≤ n ∧ n ≤ 5 + 5 * drivenRound.items.slot) ∧
    drivenRound.items.slot ≤ 31 ∧ (pulling drivenRound (ledBits 0)).line.tallyDrive = .pulled
      ∧ (pulling drivenRound (ledBits 0)).drivesNow = true
      ∧ (sampled drivenRound (ledBits 4)).line.tallyDrive ≠ .pulled := by decide +kernel

theorem witness_RoundWindowAndPatienceEvents :
    (let s := sampled drivenRound (List.replicate 226 .recessive)
     s.station.state ≠ .off ∧ s.line.roundInProgress = true ∧ s.round.window = .marked
      ∧ s.round.draft.bits.length = 226) ∧
    drivenRound.round.draft.bits.length ≠ 226 ∧ drivenRound.round.window ≠ .local
      ∧ drivenRound.round.window ≠ .closed
      ∧ (sampled drivenRound (List.replicate 225 .recessive)).round.draft.bits.length ≠ 226 := by
  decide +kernel

/-- A void bit read dominant, and a vote of the station's own. -/
theorem witness_VoidCloseTakesNothing :
    let voted : State := { sampled drivenRound (ledBits 225) with
      round := { (sampled drivenRound (ledBits 225)).round with voidVote := true } }
    ∀ s ∈ [sampled drivenRound (List.replicate 226 .dominant), voted],
      s.station.state = .synced ∧ s.items.inRange = true ∧ s.items.startCheck = .none
      ∧ s.round.window = .marked ∧ s.round.draft.bits.length = 226 ∧ s.round.drove = true
      ∧ s.round.draft.drove = true ∧ s.line.withdrawn = false
      ∧ (bitAt s.round.draft.bits 225 = .dominant ∨ s.round.voidVote = true) := by decide +kernel

/-- The record of a closed round, for the witnesses: only these three fields are asked for. -/
def closedRecord (frame : FrameNo) (outcome : RoundOutcome) (bits : List Level) : RoundRecord where
  frame := frame
  drove := true
  outcome := some outcome
  withdrawn := false
  incomplete := false
  roll := some (rollOf bits)
  ownNonce := none
  ownEchoIntact := true
  nextFrame := none
  hold := none
  standing := none
  low := none
  high := none
  holdRequest := false
  basis := ⟨false, none⟩

/-- A SYNCED and a JOINING driver of the round of section 2.12. -/
theorem witness_CleanCloseTakesTheRound :
    let synced := sampled drivenRound sampleRound
    let joining := sampled (after (.mark false) (waiting .joining)) sampleRound
    ∀ s ∈ [synced, joining], (s.station.state = .joining ∨ s.station.state = .synced)
      ∧ s.items.inRange = true ∧ s.items.startCheck = .none ∧ s.round.window = .marked
      ∧ s.round.draft.bits.length = 226 ∧ s.round.drove = true ∧ s.round.draft.drove = true
      ∧ s.line.withdrawn = false ∧ bitAt s.round.draft.bits 225 = .recessive
      ∧ s.round.voidVote = false
      ∧ (closedRecord s.timer.current .clean sampleRound).outcome = some .clean
      ∧ (closedRecord s.timer.current .clean sampleRound).frame = s.timer.current
      ∧ (closedRecord s.timer.current .clean sampleRound).roll
        = some (rollOf s.round.draft.bits) := by decide +kernel

/-- A LISTEN and a BARRED listener; the check register still holds its preset, which the field reads. -/
theorem witness_HeardCloseFollowsTheArray :
    let listens := sampled (after (.mark false) (waiting .listen)) sampleRound
    let barred := sampled (after (.mark false) (waiting .barred)) sampleRound
    ∀ s ∈ [listens, barred], (s.station.state = .listen ∨ s.station.state = .barred)
      ∧ s.items.inRange = true ∧ s.items.startCheck = .none ∧ s.round.window = .marked
      ∧ s.round.draft.bits.length = 226 ∧ s.round.drove = false ∧ s.round.draft.drove = false
      ∧ s.line.withdrawn = false ∧ s.line.markDrive = .released
      ∧ bitAt s.round.draft.bits 0 = .dominant ∧ checkRead s.round.draft.bits = s.round.checkRegister
      ∧ bitAt s.round.draft.bits 225 = .recessive
      ∧ (closedRecord s.timer.current .heard sampleRound).outcome = some .heard
      ∧ (closedRecord s.timer.current .heard sampleRound).frame = s.timer.current
      ∧ (closedRecord s.timer.current .heard sampleRound).roll
        = some (rollOf s.round.draft.bits) := by decide +kernel

/-- An unheard round, a round withdrawn from, and a local window. -/
theorem witness_UnsoundCloseMakesALocalEntry :
    let unheard := sampled heardFrame (List.replicate 226 .recessive)
    let withdrawn : State := { sampled drivenRound (List.replicate 226 .recessive) with
      line := { drivenRound.line with withdrawn := true } }
    let alone := after (.patienceExpiry .recessive) (waiting .barred)
    (unheard.station.state ≠ .off ∧ unheard.items.inRange = true ∧ unheard.items.startCheck = .none
      ∧ unheard.round.window = .marked ∧ unheard.round.draft.bits.length = 226
      ∧ unheard.round.drove = false ∧ unheard.round.draft.drove = false
      ∧ unheard.line.withdrawn = false ∧ bitAt unheard.round.draft.bits 0 = .recessive) ∧
    (withdrawn.round.window = .marked ∧ withdrawn.round.draft.bits.length = 226
      ∧ withdrawn.line.withdrawn = true ∧ withdrawn.station.state ≠ .off
      ∧ withdrawn.items.startCheck = .none) ∧
    (alone.round.window = .local ∧ alone.station.state ≠ .off ∧ alone.items.startCheck = .none) := by
  decide +kernel

theorem witness_MarkEndsTheWait :
    ∀ st ∈ [StationState.listen, .joining, .synced, .barred], let s := waiting st
      s.sound = true ∧ s.scheduleRight = true ∧ s.line.markDrive = .released
      ∧ s.line.markReference = some .dominant ∧ s.timer.phase = .wait 1 ∧ s.round.window = .closed := by
  decide +kernel

/-- The first slot of a frame, the slots beside its read end, the last, and the lead-in. -/
theorem witness_MarkCutsFrameOrLeadIn :
    (∀ p ∈ [(0, false), (3, false), (3, true), (4, true)], let s := slotOf .listen p.1 p.2
      s.sound = true ∧ s.scheduleRight = true ∧ s.countsInRange = true
      ∧ s.line.markDrive = .released ∧ s.line.markReference = some .dominant
      ∧ s.timer.phase = .counting p.1 ∧ s.round.window = .closed ∧ s.rows.nextTime = some 2
      ∧ 2 < s.items.framePeriod) ∧
    (leadIn.sound = true ∧ leadIn.scheduleRight = true ∧ leadIn.line.markDrive = .released
      ∧ leadIn.line.markReference = some .dominant ∧ leadIn.timer.phase = .leadIn 0
      ∧ leadIn.rows.nextTime = some 2 ∧ 2 < leadIn.items.framePeriod
      ∧ leadIn.rows.pendingRow = none) := by decide +kernel

/-- A marked window one bit short, a local one, and one still open after the read end. -/
theorem witness_CutAppendsTheMissingEntry :
    let short := after .markFall (sampled heardFrame (List.replicate 225 .recessive))
    let alone := after .markFall (after (.patienceExpiry .recessive) (waiting .barred))
    let late : State := { slotOf .listen 3 true with
      round := (sampled heardFrame []).round, schedule := heardFrame.schedule }
    ∀ p ∈ [(short, 0), (alone, 0), (late, 3)], p.1.sound = true ∧ p.1.scheduleRight = true
      ∧ p.1.countsInRange = true ∧ p.1.line.markDrive = .released
      ∧ p.1.line.markReference = some .dominant ∧ p.1.timer.phase = .counting p.2
      ∧ (p.1.round.window = .local
        ∨ p.1.round.window = .marked ∧ p.1.round.draft.bits.length ≠ 226)
      ∧ p.1.rows.nextTime = some 2 ∧ 2 < p.1.items.framePeriod := by decide +kernel

/-- A driven round, a heard one whose close joins and begins a hold, and one heard in BARRED. -/
theorem witness_MarkClosesACompleteRoundFirst :
    let driven := after .markFall (sampled drivenRound sampleRound)
    let barred : State :=
      { heardEmpty with station := { heardEmpty.station with state := .barred } }
    (∀ s ∈ [driven, heardEmpty, barred], s.station.state ≠ .off ∧ s.line.markDrive = .released
      ∧ s.line.markReference = some .dominant ∧ s.round.window = .marked
      ∧ s.round.draft.bits.length = 226 ∧ completes .windowClose s = true)
    ∧ (after .windowClose barred).line.markDrive = .released
    ∧ (after .windowClose heardEmpty).line.markDrive = .pulled := by decide +kernel

theorem witness_PatienceExpiryStallsADriver :
    ∀ st ∈ [StationState.joining, .synced], let s := waiting st
      s.sound = true ∧ s.scheduleRight = true ∧ s.linesAllowed = true ∧ s.station.state = st
      ∧ s.timer.phase = .wait 1 ∧ s.items.markPatience ≤ 1 + 1 ∧ s.round.window = .closed := by
  decide +kernel

/-- BARRED; LISTEN before its timeout; at the timeout with and without a dominant reference. -/
theorem witness_PatienceExpiryCountsTowardFounding :
    let atTimeout : State := { waiting .listen with
      station := { (waiting .listen).station with listenCount := 1 } }
    let noReference : State := { atTimeout with
      line := { atTimeout.line with markReference := some .recessive } }
    (∀ s ∈ [waiting .barred, waiting .listen, atTimeout, noReference], s.sound = true
      ∧ s.scheduleRight = true ∧ s.timer.phase = .wait 1 ∧ s.line.markDrive = .released
      ∧ s.items.markPatience ≤ 1 + 1 ∧ s.round.window = .closed) ∧
    (waiting .listen).station.listenCount + 1 ≠ (waiting .listen).items.listenTimeout
      ∧ atTimeout.station.listenCount + 1 = atTimeout.items.listenTimeout
      ∧ atTimeout.line.markReference = some .dominant
      ∧ noReference.line.markReference ≠ some .dominant := by decide +kernel

/-- A GAIN from a frame start; a READ and a RESET at the greatest row number; an empty queue. -/
theorem witness_SensorPortSendsOldestCommand :
    heardFrame.rows.queue = .gain 7 :: heardFrame.rows.queue.tail ∧ 7 < 256 ∧ 2047 < 2048
      ∧ State.reset.rows.queue = [] := by decide +kernel

/-- An open delivery, none, and the IDLE engine. -/
theorem witness_DeliveriesCollectTagAndPixels :
    let opened := after (.deliveryOpen false) heardFrame
    opened.rows.phase ≠ .idle ∧ opened.rows.delivery = some ⟨[], 0, []⟩
      ∧ heardFrame.rows.delivery = none ∧ State.reset.rows.phase = .idle := by decide +kernel

/-- Row 0 delivered with W pixels, with one too few, and with no row pending. -/
theorem witness_DeliveryIsCheckedAgainstThePendingRow :
    let pixels (n : Nat) : Delivery := ⟨[0, 0], n, List.replicate n 5⟩
    let delivered (p : Option PendingRow) (d : Option Nat) (missed : Bool) (n : Nat) : State :=
      { slotOf .synced 1 false with
        rows := { (slotOf .synced 1 false).rows with
          pendingRow := p, discardRow := d, endRowMissed := missed, delivery := some (pixels n) } }
    (delivered (some ⟨0, 1⟩) none false 16).rows.pendingRow = some ⟨0, 1⟩
      ∧ (pixels 16).tag = 0 :: 0 :: [] ∧ 0 = 1024 * (0 : Pixel).toNat + (0 : Pixel).toNat
      ∧ (pixels 16).count = (delivered (some ⟨0, 1⟩) none false 16).items.rowWidth
      ∧ (pixels 15).count ≠ (delivered (some ⟨0, 1⟩) none false 15).items.rowWidth
      ∧ (delivered none (some 0) false 16).rows.pendingRow = none
      ∧ (delivered none (some 0) false 16).rows.discardRow = some 0
      ∧ (delivered none none true 16).rows.discardRow = none
      ∧ (delivered none none true 16).rows.endRowMissed = true
      ∧ (delivered none none false 16).rows.endRowMissed = false
      ∧ (delivered none none false 16).rows.phase ≠ .idle
      ∧ (delivered none none false 16).rows.delivery = some (pixels 16) := by decide +kernel

theorem witness_AcceptedRowIsMeteredAndOffered : heardFrame.meter.bins.length = 14 := by decide +kernel

/-- A HEAD at its first and its last word, and an empty queue. -/
theorem witness_ConsumerAcceptsWordByWord :
    ∃ r, heardFrame.out.queue = r :: [] ∧ 0 + 1 < r.words.length ∧ r.words.length ≤ 4 + 1
      ∧ State.reset.out.queue = [] := ⟨_, rfl, by decide +kernel, by decide +kernel, rfl⟩

/-- A notice with exactly 3 control entries free, with 2, and in an open frame. -/
theorem witness_OldestNoticeMovesInAGap :
    leadIn.out.notices = ⟨65535, .stateChanged .off .listen .start⟩ :: []
      ∧ leadIn.out.position = .gap ∧ leadIn.out.controlHeld + 3 ≤ 8
      ∧ ({ leadIn.out with controlHeld := 5 }).controlHeld + 3 ≤ 8
      ∧ 8 < ({ leadIn.out with controlHeld := 6 }).controlHeld + 3
      ∧ heardFrame.out.position = .opened ∧ State.reset.out.notices = [] := by decide +kernel

/-- Each field at its greatest value. -/
theorem witness_StreamWordsHoldTheirFields :
    (let e : Entry := ⟨0xFFFF, .agreed, 4095, 4095, 63, 4095, 255, 0xFFFF, some [0, 31]⟩
     e.arrayExv ≤ 4095 ∧ e.localExv ≤ 4095 ∧ e.step ≤ 63 ∧ e.time ≤ 4095 ∧ e.gain ≤ 255
      ∧ ∀ slot ∈ e.agreeing.getD [], slot ≤ 31) ∧
    (let r : RowRecord := ⟨0, 2047, [1023, 0]⟩
     r.row ≤ 2047 ∧ r.pixels.length % 2 = 0 ∧ 0 < r.pixels.length / 2) ∧
    (let t : TailRecord := ⟨0, 4095, 4095, 65535, true, some 13, 2 ^ 24 - 1, true, true, true⟩
     t.delivered ≤ 4095 ∧ t.dropped ≤ 4095 ∧ t.faults ≤ 65535 ∧ t.clip < 2 ^ 24
      ∧ t.percentileBin = some 13) ∧
    (65535 < 2 ^ 16 ∧ 31 ≤ 31 ∧ 255 ≤ 255) := by decide +kernel

/-- A round in which slot 0 alone is present and offers 1900: the entry is AGREED, one step limit below S. -/
theorem witness_EntriesStayWithinTheStepLimit :
    let s := sampled drivenRound (List.flatten
      [[.dominant], ledBits 189, [.dominant], natToLevels 12 1900, List.replicate 22 .recessive])
    s.round.window = .marked ∧ s.station.state ≠ .off ∧ s.round.draft.bits.length = 226
      ∧ (after .windowClose s).schedule.take 2 = s.schedule
      ∧ ((after .windowClose s).schedule.drop 2).map (fun e => (e.source, e.arrayExv))
        = [(.agreed, 2032)] := by decide +kernel

theorem witness_ContestsReadLeastAndGreatest :
    ([0, 4095] : List Nat) ≠ [] ∧ ∀ v ∈ [0, 4095], v < 2 ^ 12 := by decide +kernel

/-- One bit, and a burst of eight. -/
theorem witness_CheckValueSeesOddAndShortDifferences :
    let a := List.replicate 9 Level.recessive
    let one := .dominant :: List.replicate 8 Level.recessive
    let burst := .dominant :: List.replicate 6 Level.recessive ++ [.dominant, .recessive]
    a.length = one.length ∧ a.length = burst.length
      ∧ ((List.range 9).filter fun i => decide (a[i]? ≠ one[i]?)) = [0]
      ∧ ((List.range 9).filter fun i => decide (a[i]? ≠ burst[i]?)) = [0, 7] := by decide +kernel

theorem witness_RosterFollowsTheTables :
    1 ≤ small.missLimit ∧ (closedRecord 1 .clean sampleRound).roll = some (rollOf sampleRound)
      ∧ clearedRoster.length = 32 ∧ (closedRecord 1 .void sampleRound).outcome = some .void
      ∧ clearedRoster[31]? = some ⟨.absent, 0, none⟩ ∧ (rollOf sampleRound).lookup 2 = some 6
      ∧ (rollOf sampleRound).lookup 31 = none := by decide +kernel

/-- The greatest and the least time of a small frame; rows on both sides of it. -/
theorem witness_EveryReadRowIsResetOnce :
    small.rowsRead < small.framePeriod ∧ 1 ≤ 4 ∧ 4 < small.framePeriod ∧ (⟨0, 4, 0, 0⟩ : Plan).time = 4
      ∧ 1 < small.framePeriod ∧ 0 < 1 ∧ 1 ≤ 1 ∧ 2 < small.rowsRead ∧ 2 < 4
      ∧ (slotOf .synced 0 false).timer.phase = .counting 0
      ∧ (slotOf .synced 0 false).rows.nextTime = some 2
      ∧ (slotOf .synced 0 false).rows.current = some ⟨0, 2, 7, 2048⟩ := by decide +kernel

theorem witness_ItemsAreFrozenOutsideOff :
    leadIn.station.state ≠ .off
      ∧ completes (.writeItem 0x1D 7) leadIn = true := by decide +kernel

/-- A full list, and one notice. -/
theorem witness_NoticeListIsBoundedAndInOrder :
    (List.replicate 8 (Notice.mk 0 .lineLow)).length ≤ 8 ∧ leadIn.out.notices.length ≤ 8
      ∧ completes .noticeMove leadIn = true := by decide +kernel

/-- A change of state, and none. -/
theorem witness_TransitionsFollowTheTable :
    (off small).out.notices.length ≤ 8
      ∧ completes (.start .dominant) (off small) = true ∧ leadIn.station.state ≠ (off small).station.state
      ∧ Instr.start .dominant ≠ .powerOnReset
      ∧ (after (.mark false) leadIn).station.state = leadIn.station.state := by decide +kernel

/-- A step of a running part that meets every premise of the laws that every step keeps. -/
def running : State := { heardFrame with pending := [.markHold] }

theorem witness_EveryStepKeepsTheShape :
    running.sound = true ∧ running.linesAllowed = true ∧ running.nonceNonzero = true
      ∧ completes .markHold heardFrame = true := by decide +kernel

theorem witness_EveryStepKeepsMissCounts :
    running.sound = true ∧ running.rosterRight = true := by decide +kernel

theorem witness_EveryStepKeepsTheScheduleInOrder :
    running.sound = true ∧ running.scheduleRight = true := by decide +kernel

theorem witness_EveryStepKeepsTheStreamInShape :
    running.sound = true ∧ running.streamRight := by
  refine ⟨by decide +kernel, ⟨.gap, .inFrame 0 0, by decide +kernel, ?_⟩, ?_⟩
  · exact ⟨rfl, Nat.zero_le _⟩
  · decide +kernel

/-- The two primed entries follow the ladder's one step. -/
theorem witness_EveryStepKeepsValuesInRange :
    running.sound = true ∧ running.exposuresInRange = true ∧ running.scheduleRight = true
      ∧ running.countsInRange = true ∧ running.streamRight ∧ running.scheduleByLadder := by
  refine ⟨by decide +kernel, by decide +kernel, by decide +kernel, by decide +kernel,
    witness_EveryStepKeepsTheStreamInShape.2, ?_⟩
  have h : running.schedule = [makeEntry small 0 65535 .local 2048 none,
      makeEntry small 1 65535 .local 2048 none] := by decide +kernel
  have one (j : Nat) (st : LadderStep) (hj : j < 1) (hs : small.ladder[j]? = some st) : st.threshold ≤ 0 := by
    obtain rfl : j = 0 := by omega
    cases hs
    exact Nat.le_refl 0
  intro e he
  rw [h] at he
  rcases List.mem_pair.mp he with rfl | rfl <;>
    exact ⟨rfl, by decide, ⟨0, 2, 7⟩, rfl, by decide, rfl, rfl, fun j st hj hs _ => one j st hj hs⟩

end Sys2Proof.Tests
end

section
/-! SUPPORT. Family 03, the exposure schedule: what a window close leaves of the schedule, what leaves the law of
R54 as it stands, and the step lemma of that law. -/

namespace Sys2Proof.Machine

/-! ### What a window close does to the schedule and the frame timer (R48, R56, R76) -/

@[simp] theorem State.passRecord_window (s : State) (r : RoundRecord) (atMark : Bool) :
    (s.passRecord r atMark).round.window = .closed := by
  unfold State.passRecord; dsimp only
  split <;> simp [RoundEngine.closed]

/-- A close never changes the number of the frame now running (R76). -/
theorem timerClose_current (r : RoundRecord) (t : FrameTimer) : (timerClose r t).1.current = t.current := by
  unfold timerClose
  repeat' split
  all_goals rfl

/-- Nor its phase. -/
theorem timerClose_phase (r : RoundRecord) (t : FrameTimer) : (timerClose r t).1.phase = t.phase := by
  unfold timerClose
  repeat' split
  all_goals rfl

@[simp] theorem State.passRecord_current (s : State) (r : RoundRecord) (atMark : Bool) :
    (s.passRecord r atMark).timer.current = s.timer.current := by
  unfold State.passRecord; dsimp only
  split <;> simp [timerClose_current]

@[simp] theorem State.passRecord_phase (s : State) (r : RoundRecord) (atMark : Bool) :
    (s.passRecord r atMark).timer.phase = s.timer.phase := by
  unfold State.passRecord; dsimp only
  split <;> simp [timerClose_phase]

/-- The entry that a close of this record makes in this state (R48). -/
def State.entryOf (s : State) (r : RoundRecord) : Entry :=
  closeEntry s.items r (adoptedStanding (s.station.state == .barred) r s.agree.standing)

/-- An incomplete record appends nothing, any other one the entry of R48 (R36, R48). -/
theorem State.passRecord_schedule (s : State) (r : RoundRecord) (atMark : Bool) :
    (s.passRecord r atMark).schedule =
      if r.incomplete then s.schedule else s.schedule ++ [s.entryOf r] := by
  have close : (agreementClose s.items (s.station.state == .barred) r s.agree s.schedule).2.1 =
      if r.incomplete then s.schedule else s.schedule ++ [s.entryOf r] := by
    unfold agreementClose State.entryOf; dsimp only
    split <;> rfl
  unfold State.passRecord; dsimp only
  split <;> simpa using close

/-- The entry of a close is for the frame after the next (R56). -/
theorem State.entryOf_target (s : State) (r : RoundRecord) : (s.entryOf r).target = r.frame + 2 := rfl

/-! ### The row engine's phase and the frame numbers under the shared operations -/

@[simp] theorem State.takeDeadline_rows_phase (s : State) (k : Nat) :
    (s.takeDeadline k).rows.phase = s.rows.phase := by
  unfold State.takeDeadline
  repeat' split
  all_goals rfl

@[simp] theorem State.checkDelivery_rows_phase (s : State) (atReadEnd : Bool) (d : Delivery) :
    (s.checkDelivery atReadEnd d).rows.phase = s.rows.phase := by
  unfold State.checkDelivery
  repeat' split
  all_goals simp [State.rowFault]

@[simp] theorem State.completeDelivery_rows_phase (s : State) (atReadEnd : Bool) :
    (s.completeDelivery atReadEnd).rows.phase = s.rows.phase := by
  unfold State.completeDelivery
  split <;> simp

@[simp] theorem State.offerTail_rows_phase (s : State) (cut stopped : Bool) :
    (s.offerTail cut stopped).rows.phase = s.rows.phase := by
  unfold State.offerTail; dsimp only
  split <;> rfl

@[simp] theorem State.endEarly_rows_phase (s : State) (cut stopped : Bool) :
    (s.endEarly cut stopped).rows.phase = s.rows.phase := by
  simp [State.endEarly]

@[simp] theorem State.cutFrame_rows_phase (s : State) : s.cutFrame.rows.phase = s.rows.phase := by
  unfold State.cutFrame
  split
  · dsimp only; split <;> simp [RowEngine.cutFrame]
  · rfl
  all_goals rfl

@[simp] theorem State.sampleBit_window (s : State) (read : Level) :
    (s.sampleBit read).round.window = s.round.window := by
  unfold State.sampleBit; dsimp only
  repeat' split
  all_goals simp [State.roundAt]

@[simp] theorem State.markFault_window (s : State) : s.markFault.round.window = s.round.window := by
  simp [State.markFault]

/-! ### What leaves the law of R54 as it stands -/

/-- All that the law of R54 looks at: the entries, whether a frame runs, its number and the next one's, and whether
its window is open. -/
def State.scheduleView (s : State) : List Entry × RowPhase × FrameNo × FrameNo × Window :=
  (s.schedule, s.rows.phase, s.timer.current, s.timer.next, s.round.window)

/-- The law of R54 as an equation. -/
theorem State.scheduleRight_iff (s : State) :
    s.scheduleRight = true ↔ s.schedule.map (·.target) = s.scheduledTargets := by
  simp [State.scheduleRight]

/-- The law of R54 holds of the view. -/
theorem State.scheduleRight_of_view {s t : State} (h : t.scheduleView = s.scheduleView)
    (hr : s.scheduleRight = true) : t.scheduleRight = true := by
  simp only [State.scheduleView, Prod.mk.injEq] at h
  obtain ⟨schedule, phase, current, next, window⟩ := h
  rw [State.scheduleRight_iff] at hr ⊢
  simpa only [State.scheduledTargets, schedule, phase, current, next, window] using hr

section
variable (s : State)

@[simp] theorem State.withLine_scheduleView (x : TallyInterface) :
    (s.withLine x).scheduleView = s.scheduleView := rfl
@[simp] theorem State.withStation_scheduleView (x : StationController) :
    (s.withStation x).scheduleView = s.scheduleView := rfl
@[simp] theorem State.withAgree_scheduleView (x : AgreementUnit) :
    (s.withAgree x).scheduleView = s.scheduleView := rfl
@[simp] theorem State.withMeter_scheduleView (x : Meter) :
    (s.withMeter x).scheduleView = s.scheduleView := rfl
@[simp] theorem State.withOut_scheduleView (x : OutputUnit) :
    (s.withOut x).scheduleView = s.scheduleView := rfl
@[simp] theorem State.withPort_scheduleView (x : ControlPort) :
    (s.withPort x).scheduleView = s.scheduleView := rfl
@[simp] theorem State.withFreeCount_scheduleView (x : Nat) :
    (s.withFreeCount x).scheduleView = s.scheduleView := rfl
@[simp] theorem State.withPending_scheduleView (q : List Instr) :
    (s.withPending q).scheduleView = s.scheduleView := rfl
@[simp] theorem State.count_scheduleView (f : Counters → Counters) :
    (s.count f).scheduleView = s.scheduleView := rfl
@[simp] theorem State.moveStation_scheduleView (dest : StationState) :
    (s.moveStation dest).scheduleView = s.scheduleView := rfl
@[simp] theorem State.answer_scheduleView (r : CommandResult) :
    (s.answer r).scheduleView = s.scheduleView := rfl
@[simp] theorem State.openRead_scheduleView (received : List Byte) (word : Option Word) (status : Bool) :
    (s.openRead received word status).scheduleView = s.scheduleView := rfl

@[simp] theorem State.createMerged_scheduleView (qs : List (List Notice)) :
    (s.createMerged qs).scheduleView = s.scheduleView := by
  simp [State.scheduleView]
@[simp] theorem State.holdMark_scheduleView (j : Option Level) :
    (s.holdMark j).scheduleView = s.scheduleView := by
  simp [State.scheduleView]

/-- Another row engine in the same phase. -/
theorem State.withRows_scheduleView {x : RowEngine} (h : x.phase = s.rows.phase) :
    (s.withRows x).scheduleView = s.scheduleView := by
  simp [State.scheduleView, h]
/-- Another frame timer with the same numbers. -/
theorem State.withTimer_scheduleView {x : FrameTimer} (hc : x.current = s.timer.current)
    (hn : x.next = s.timer.next) :
    (s.withTimer x).scheduleView = s.scheduleView := by
  simp [State.scheduleView, hc, hn]
/-- Another round engine with the same window. -/
theorem State.withRound_scheduleView {x : RoundEngine} (h : x.window = s.round.window) :
    (s.withRound x).scheduleView = s.scheduleView := by
  simp [State.scheduleView, h]

@[simp] theorem State.takeDeadline_scheduleView (k : Nat) :
    (s.takeDeadline k).scheduleView = s.scheduleView := by
  simp [State.scheduleView]
@[simp] theorem State.completeDelivery_scheduleView (atReadEnd : Bool) :
    (s.completeDelivery atReadEnd).scheduleView = s.scheduleView := by
  simp [State.scheduleView]
@[simp] theorem State.cutFrame_scheduleView : s.cutFrame.scheduleView = s.scheduleView := by
  simp [State.scheduleView]
@[simp] theorem State.sampleBit_scheduleView (read : Level) :
    (s.sampleBit read).scheduleView = s.scheduleView := by
  simp [State.scheduleView]
@[simp] theorem State.markFault_scheduleView : s.markFault.scheduleView = s.scheduleView := by
  simp [State.scheduleView]
@[simp] theorem State.readEnd_scheduleView (k : Nat) : (s.readEnd k).scheduleView = s.scheduleView := by
  simp [State.scheduleView, State.readEnd]

@[simp] theorem State.enterWait_scheduleView : s.enterWait.scheduleView = s.scheduleView := by
  unfold State.enterWait; dsimp only
  split <;> rfl

@[simp] theorem State.passSlot_scheduleView (k : Nat) (next : TimerPhase) :
    (s.passSlot k next).scheduleView = s.scheduleView := by
  have issued : (s.withRows (s.rows.issueSlot s.items k)).scheduleView = s.scheduleView :=
    s.withRows_scheduleView rfl
  unfold State.passSlot; dsimp only
  split
  · exact (State.withTimer_scheduleView _ rfl rfl).trans issued
  · exact (State.enterWait_scheduleView _).trans issued

@[simp] theorem State.endSlot_scheduleView : s.endSlot.scheduleView = s.scheduleView := by
  unfold State.endSlot
  split
  · simp
  · dsimp only
    split <;> simp
  all_goals rfl

end

/-! ### The commands that open and close no frame, window or run -/

/-- Whatever next state the outcome names, it shows the law of R54 the same as `s` does. -/
def State.UnseenBy (s : State) (o : Host.Outcome State Fault Refusal) : Prop :=
  ∀ t, o = .next t → t.scheduleView = s.scheduleView

theorem State.UnseenBy.next {s t : State} (h : t.scheduleView = s.scheduleView) : s.UnseenBy (.next t) := by
  rintro _ ⟨⟩
  exact h

/-- A command whose effect waits on a condition. -/
theorem State.UnseenBy.due {s t : State} {p : Prop} [Decidable p] (h : t.scheduleView = s.scheduleView) :
    s.UnseenBy (if p then .next t else .next s) := by
  split
  · exact .next h
  · exact .next rfl

/-- A transaction changes the control port alone (R156 to R159), and a hold command the hold request as well (R43). -/
theorem hostCommand_unseen (s : State) :
    (∀ index, s.UnseenBy (execReadItem index s)) ∧ (∀ index word, s.UnseenBy (execWriteItem index word s))
    ∧ (∀ index, s.UnseenBy (execReadRoster index s)) ∧ s.UnseenBy (execReadStatus s)
    ∧ s.UnseenBy (execHoldOn s) ∧ s.UnseenBy (execHoldOff s)
    ∧ (∀ code, s.UnseenBy (execUnknownCommandByte code s)) :=
  ⟨fun _ => .due (by simp), fun _ _ => .due (by simp), fun _ => .due (by simp), .due (by simp), .due (by simp),
    .due (by simp), fun _ => .due (by simp)⟩

/-- The port's own events change the control port alone (R156, R157, R165). -/
theorem portEvent_unseen (s : State) :
    s.UnseenBy (execLastDataByteSent s) ∧ s.UnseenBy (execTransactionAbandoned s)
    ∧ (∀ selHigh, s.UnseenBy (execResetRelease selHigh s)) := by
  refine ⟨?_, ?_, fun selHigh => ?_⟩
  · unfold execLastDataByteSent
    split <;> exact .next rfl
  · unfold execTransactionAbandoned
    split <;> exact .next rfl
  · unfold execResetRelease
    split <;> exact .next rfl

/-- The output port changes the output unit alone (R149, R152). -/
theorem outputPort_unseen (s : State) :
    s.UnseenBy (execOutputWordAccept s) ∧ s.UnseenBy (execNoticeMove s) := by
  constructor
  · unfold execOutputWordAccept
    split
    · exact .next rfl
    · split <;> exact .next rfl
  · unfold execNoticeMove
    split
    · exact .next rfl
    · exact .due rfl

/-- The sensor port changes the row engine, the meter and the output unit, and no phase (R126, R134 to R138). -/
theorem sensorPort_unseen (s : State) :
    s.UnseenBy (execSensorCommandSend s) ∧ (∀ atReadEnd, s.UnseenBy (execDelivery atReadEnd s))
    ∧ (∀ atReadEnd, s.UnseenBy (execDeliveryOpen atReadEnd s))
    ∧ (∀ word, s.UnseenBy (execDeliveryWord word s)) := by
  refine ⟨?_, fun atReadEnd => ?_, fun atReadEnd => ?_, fun word => ?_⟩
  · unfold execSensorCommandSend
    split <;> exact .next rfl
  · unfold execDelivery
    split <;> exact .next (by simp)
  · unfold execDeliveryOpen
    split
    · exact .next rfl
    all_goals exact .next ((State.withRows_scheduleView _ rfl).trans (s.completeDelivery_scheduleView atReadEnd))
  · unfold execDeliveryWord
    split <;> exact .next rfl

/-- A slot end, a deadline, a read end, an expiry and a tick of the wait leave the frame as it is numbered
(R63, R64, R136). -/
theorem rowTime_unseen (s : State) :
    s.UnseenBy (execRowSlotEnd s) ∧ s.UnseenBy (execReadEnd s) ∧ s.UnseenBy (execDeadline s)
    ∧ s.UnseenBy (execExpiry s) ∧ s.UnseenBy (execWaitTimerTick s) := by
  refine ⟨.next s.endSlot_scheduleView, ?_, ?_, ?_, ?_⟩
  · unfold execReadEnd
    split
    · exact .due (by simp)
    all_goals exact .next rfl
  · unfold execDeadline
    split <;> exact .next (by simp)
  · unfold execExpiry
    split
    · exact .due s.endSlot_scheduleView
    · exact .next rfl
  · unfold execWaitTimerTick
    split
    · exact .due rfl
    all_goals exact .next rfl

/-- The bits of a round leave its window open (R6, R8). -/
theorem roundBit_unseen (s : State) :
    s.UnseenBy (execRoundBitStart s) ∧ (∀ read, s.UnseenBy (execRoundBitSample read s))
    ∧ s.UnseenBy (execRoundEnd s) :=
  ⟨.due rfl, fun _ => .due (by simp), .due rfl⟩

/-- A fall of MARK, the hold and its checks change the tally interface and the void vote (R5, R16, R65). -/
theorem markLine_unseen (s : State) :
    s.UnseenBy (execMarkFall s) ∧ s.UnseenBy (execMarkHold s)
    ∧ (∀ level, s.UnseenBy (execMarkDriveFault level s)) := by
  refine ⟨.due rfl, .due ?_, fun level => ?_⟩
  · split <;> simp
  · unfold execMarkDriveFault
    split
    · exact .next rfl
    · cases level <;> exact .next (by simp)

/-- The command has no part in opening or closing a frame, a window or a run. -/
def leavesSchedule : Instr → Bool
  | .start _ | .stop | .powerOnReset | .mark _ | .windowClose | .localWindowClose | .patienceExpiry _ => false
  | _ => true

/-- The law of R54 does not see a command that opens or closes no frame, window or run. -/
theorem exec_unseen (c : Instr) (s : State) (hc : leavesSchedule c = true) : s.UnseenBy (exec c s) := by
  obtain ⟨readItem, writeItem, readRoster, readStatus, holdOn, holdOff, unknown⟩ := hostCommand_unseen s
  obtain ⟨lastByte, abandoned, release⟩ := portEvent_unseen s
  obtain ⟨accept, noticeMove⟩ := outputPort_unseen s
  obtain ⟨send, delivery, deliveryOpen, deliveryWord⟩ := sensorPort_unseen s
  obtain ⟨slotEnd, readEnd, deadline, expiry, tick⟩ := rowTime_unseen s
  obtain ⟨bitStart, bitSample, roundEnd⟩ := roundBit_unseen s
  obtain ⟨fall, hold, driveFault⟩ := markLine_unseen s
  cases c with
  | readItem index => exact readItem index
  | writeItem index word => exact writeItem index word
  | readRoster index => exact readRoster index
  | readStatus => exact readStatus
  | holdOn => exact holdOn
  | holdOff => exact holdOff
  | unknownCommandByte code => exact unknown code
  | lastDataByteSent => exact lastByte
  | transactionAbandoned => exact abandoned
  | resetRelease selHigh => exact release selHigh
  | outputWordAccept => exact accept
  | noticeMove => exact noticeMove
  | sensorCommandSend => exact send
  | delivery atReadEnd => exact delivery atReadEnd
  | deliveryOpen atReadEnd => exact deliveryOpen atReadEnd
  | deliveryWord word => exact deliveryWord word
  | rowSlotEnd => exact slotEnd
  | readEnd => exact readEnd
  | deadline => exact deadline
  | expiry => exact expiry
  | waitTimerTick => exact tick
  | roundBitStart => exact bitStart
  | roundBitSample level => exact bitSample level
  | roundEnd => exact roundEnd
  | markFall => exact fall
  | markHold => exact hold
  | markDriveFault level => exact driveFault level
  | start | stop | powerOnReset | mark | windowClose | localWindowClose | patienceExpiry => cases hc

/-! ### Frame starts (R57 to R59, R75) -/

/-- What the schedule must hold when a frame starts, so that retirement and the cut append leave the two entries
of R57: the targets one and two above the ended frame's number (in the lead-in, above START's 65535). -/
def State.TargetsDue (s : State) (incomplete : Bool) : Prop :=
  (if s.rows.phase = .frame then (s.schedule.map (·.target)).tail else s.schedule.map (·.target))
      ++ (if incomplete then [s.timer.current + 2] else [])
    = [s.timer.current + 1, s.timer.current + 2]

/-- A frame start sees of the state only what the law of R54 sees. -/
theorem State.targetsDue_of_view {s t : State} {incomplete : Bool} (h : t.scheduleView = s.scheduleView)
    (hd : s.TargetsDue incomplete) : t.TargetsDue incomplete := by
  simp only [State.scheduleView, Prod.mk.injEq] at h
  obtain ⟨schedule, phase, current, -, -⟩ := h
  simpa only [State.TargetsDue, schedule, phase, current] using hd

/-- The cut append is for the ended frame's number plus 2 (R58). -/
theorem State.cutAppend_target (s : State) (incomplete : Bool) :
    (s.cutAppend incomplete).toList.map (·.target) = if incomplete then [s.timer.current + 2] else [] := by
  cases incomplete <;> rfl

/-- Retargeting adds the difference to every target (R59). -/
theorem retarget_target (d : FrameNo) (entries : List Entry) :
    (entries.map (Entry.retarget d)).map (·.target) = (entries.map (·.target)).map (· + d) := by
  simp [Entry.retarget, Function.comp_def]

/-- A frame start makes the next number current, and nothing else changes it (R68, R75). -/
theorem State.frameStart_timer (s : State) (kind : StartKind) (lag : Nat) (incomplete : Bool) :
    (s.frameStart kind lag incomplete).timer = s.timer.startFrame kind lag := by
  simp [State.frameStart]

@[simp] theorem State.frameStart_rows_phase (s : State) (kind : StartKind) (lag : Nat) (incomplete : Bool) :
    (s.frameStart kind lag incomplete).rows.phase = .frame := by
  simp [State.frameStart, State.planFrame, RowEngine.startFrame]

/-- The targets once the first entry has retired, the cut entry is appended and the rest is retargeted (R57). -/
theorem State.frameStart_targets (s : State) (kind : StartKind) (lag : Nat) (incomplete : Bool) :
    (s.frameStart kind lag incomplete).schedule.map (·.target) =
      ((if s.rows.phase = .frame then (s.schedule.map (·.target)).tail else s.schedule.map (·.target))
        ++ (if incomplete then [s.timer.current + 2] else [])).map (· + s.timer.renumbering) := by
  have after : (s.frameStart kind lag incomplete).schedule = scheduleFrameStart (s.rows.phase == .frame)
      (s.cutAppend incomplete) s.timer.renumbering s.schedule := by
    simp [State.frameStart, State.startSchedule]
  rw [after, scheduleFrameStart, retarget_target, List.map_append, State.cutAppend_target]
  by_cases frame : s.rows.phase = .frame <;> simp [frame]

/-- A frame start with the entries due leaves exactly the new frame's and the next (R54, R57). -/
theorem State.frameStart_schedule_targets {s : State} {incomplete : Bool} (hd : s.TargetsDue incomplete)
    (kind : StartKind) (lag : Nat) :
    (s.frameStart kind lag incomplete).schedule.map (·.target) = [s.timer.next, s.timer.next + 1] := by
  have first : s.timer.current + 1 + s.timer.renumbering = s.timer.next := by
    unfold FrameTimer.renumbering; bv_omega
  have second : s.timer.current + 2 + s.timer.renumbering = s.timer.next + 1 := by
    unfold FrameTimer.renumbering; bv_omega
  rw [State.frameStart_targets, hd, List.map_cons, List.map_singleton, first, second]

/-- A frame start followed by the opening of a window meets the law of R54. -/
theorem State.frameStart_scheduleRight {s t : State} {incomplete : Bool} {kind : StartKind} {lag : Nat}
    (hd : s.TargetsDue incomplete)
    (view : t.scheduleView = ((s.frameStart kind lag incomplete).withRound t.round).scheduleView)
    (opened : t.round.window ≠ .closed) : t.scheduleRight = true := by
  refine State.scheduleRight_of_view view ?_
  simp [State.scheduleRight_iff, State.scheduledTargets, opened, State.frameStart_schedule_targets hd,
    State.frameStart_timer, FrameTimer.startFrame]

/-! ### Marks and local frames (R5, R36, R67 to R70) -/

/-- A state from which a mark can start a frame: the law of R54 holds, the frame timer is not idle, and a frame
runs or the lead-in does, with no window and the numbers following on (R74). -/
structure State.Startable (s : State) : Prop where
  right : s.schedule.map (·.target) = s.scheduledTargets
  timed : s.timer.phase ≠ .idle
  started : s.rows.phase = .frame ∨
    s.rows.phase = .leadIn ∧ s.round.window = .closed ∧ s.timer.next = s.timer.current + 1

/-- With no window open the entry of the frame after the next is there already (R56, R57). -/
theorem State.Startable.targetsDue_of_closed {s : State} (h : s.Startable) (closed : s.round.window = .closed) :
    s.TargetsDue false := by
  have right := h.right
  rcases h.started with frame | ⟨leadIn, -, next⟩
  · simp [State.scheduledTargets, frame, closed] at right
    simp [State.TargetsDue, frame, right]
  · have second : s.timer.next + 1 = s.timer.current + 2 := by rw [next]; bv_omega
    simp only [State.scheduledTargets, leadIn] at right
    simpa [State.TargetsDue, leadIn, right] using And.intro next second

/-- A frame with its window open has its own entry and the next. -/
theorem State.Startable.targets_of_open {s : State} (h : s.Startable) (opened : s.round.window ≠ .closed) :
    s.rows.phase = .frame ∧ s.schedule.map (·.target) = [s.timer.current, s.timer.current + 1] := by
  rcases h.started with frame | ⟨-, closed, -⟩
  · exact ⟨frame, by simpa [State.scheduledTargets, frame, opened] using h.right⟩
  · exact absurd closed opened

/-- The close of an open window at a mark leaves the entries due, the incomplete one's entry being the cut append
that follows (R36, R58). -/
theorem State.Startable.passRecord_targetsDue {s : State} (h : s.Startable) (opened : s.round.window ≠ .closed)
    {r : RoundRecord} (hf : r.frame = s.timer.current) {incomplete : Bool} (hi : r.incomplete = incomplete)
    (atMark : Bool) : (s.passRecord r atMark).TargetsDue incomplete := by
  obtain ⟨frame, targets⟩ := h.targets_of_open opened
  cases incomplete with
  | true => simp [State.TargetsDue, State.passRecord_schedule, hi, frame, targets]
  | false => simp [State.TargetsDue, State.passRecord_schedule, hi, frame, targets, State.entryOf_target, hf]

theorem State.Startable.closeAtMark_targetsDue {s : State} (h : s.Startable) :
    s.closeAtMark.TargetsDue s.windowIncomplete := by
  unfold State.closeAtMark State.windowIncomplete
  cases window : s.round.window with
  | closed => exact h.targetsDue_of_closed window
  | marked =>
    dsimp only
    split
    next complete =>
      exact h.passRecord_targetsDue (by simp [window]) rfl (by simp [complete, State.completeRecord]) true
    next short =>
      exact h.passRecord_targetsDue (by simp [window]) rfl (by simp [short, State.unreadRecord]) true
  -- a local window
  | _ => exact h.passRecord_targetsDue (by simp [window]) rfl rfl true

/-- The close at a mark does not stop the frame timer. -/
theorem State.closeAtMark_phase (s : State) : s.closeAtMark.timer.phase = s.timer.phase := by
  unfold State.closeAtMark
  repeat' split
  all_goals simp

/-- A mark starts a frame from the state, or from the state once the frame is cut (R67, R70). -/
theorem State.markFrame_cases {s : State} (timed : s.timer.phase ≠ .idle) (incomplete : Bool) :
    ∃ (u : State) (kind : StartKind) (lag : Nat), u.scheduleView = s.scheduleView
      ∧ s.markFrame incomplete = u.frameStart kind lag incomplete := by
  unfold State.markFrame
  split
  · exact ⟨s, _, _, rfl, rfl⟩
  · exact ⟨s.cutFrame, _, _, s.cutFrame_scheduleView, rfl⟩
  · exact ⟨s.cutFrame, _, _, s.cutFrame_scheduleView, rfl⟩
  · contradiction

/-- A mark recognised leaves the new frame's two entries and its window open (R57, R58). -/
theorem State.Startable.recogniseMark_scheduleRight {s : State} (h : s.Startable) :
    s.recogniseMark.scheduleRight = true := by
  have timed : s.closeAtMark.timer.phase ≠ .idle := by simpa [State.closeAtMark_phase] using h.timed
  unfold State.recogniseMark; dsimp only
  obtain ⟨u, kind, lag, view, starts⟩ := State.markFrame_cases
    (s := (s.closeAtMark.withLine (s.closeAtMark.line.atMark s.closeAtMark.station.state.drives)).withStation
      s.closeAtMark.station.seeMark) timed s.windowIncomplete
  have due : u.TargetsDue s.windowIncomplete :=
    State.targetsDue_of_view (by simpa using view) h.closeAtMark_targetsDue
  rw [starts]
  exact State.frameStart_scheduleRight due rfl (by simp [RoundEngine.openMarked])

/-- A local frame opened with no window open meets the law of R54, and a mark can cut it (R35, R69). -/
theorem State.Startable.localFrame {s : State} (h : s.Startable) (closed : s.round.window = .closed) :
    s.localFrame.Startable where
  right := (State.scheduleRight_iff _).1 <| State.frameStart_scheduleRight (h.targetsDue_of_closed closed) rfl
    (by simp [State.localFrame, RoundEngine.openLocal])
  timed := by simp [State.localFrame, State.frameStart_timer, FrameTimer.startFrame]
  started := .inl (by simp [State.localFrame])

/-- What looks the same to the law of R54 and has its timer running can start a frame as well. -/
theorem State.Startable.of_view {s t : State} (h : s.Startable) (view : t.scheduleView = s.scheduleView)
    (timed : t.timer.phase ≠ .idle) : t.Startable where
  right := (State.scheduleRight_iff t).1 <| State.scheduleRight_of_view view ((State.scheduleRight_iff s).2 h.right)
  timed := timed
  started := by
    simp only [State.scheduleView, Prod.mk.injEq] at view
    obtain ⟨-, phase, current, next, window⟩ := view
    rw [phase, current, next, window]
    exact h.started

/-! ### The commands of the family (R35, R37, R54 to R57, R69, R81, R82) -/

/-- In the lead-in no window is open and the next frame's number follows START's 65535 (R74). -/
theorem State.follows_of_inLeadIn {s : State} (h : s.inLeadIn = true) :
    s.round.window = .closed ∧ s.timer.next = s.timer.current + 1 := by
  simp only [State.inLeadIn, Bool.and_eq_true, beq_iff_eq] at h
  obtain ⟨⟨⟨-, closed⟩, current⟩, next⟩ := h
  exact ⟨closed, by rw [current, next]; rfl⟩

/-- The phases of a sound state: off with the timer idle, or with the timer running in the lead-in or in a frame
(R62, R74, R125). -/
theorem State.phases_of_sound {s : State} (hs : s.sound = true) :
    (s.timer.phase = .idle ∧ s.active = false) ∨
    (s.timer.phase ≠ .idle ∧ (s.rows.phase = .frame ∨
      s.rows.phase = .leadIn ∧ s.round.window = .closed ∧ s.timer.next = s.timer.current + 1)) := by
  simp only [State.sound, State.phasesAgree, Bool.and_eq_true] at hs
  obtain ⟨-, -, phases⟩ := hs
  split at phases
  next timer row => exact .inl ⟨timer, by simp_all [State.active]⟩
  next k timer row => exact .inr ⟨by simp [timer], .inr ⟨row, State.follows_of_inLeadIn (by simp_all)⟩⟩
  next w timer row => exact .inr ⟨by simp [timer], .inr ⟨row, State.follows_of_inLeadIn (by simp_all)⟩⟩
  next k timer row => exact .inr ⟨by simp [timer], .inl row⟩
  next w timer row => exact .inr ⟨by simp [timer], .inl row⟩
  next => contradiction

/-- A sound state whose timer runs can start a frame under the law of R54. -/
theorem State.startable_of_timed {s : State} (hs : s.sound = true) (hr : s.scheduleRight = true)
    (timed : s.timer.phase ≠ .idle) : s.Startable := by
  rcases State.phases_of_sound hs with ⟨idle, -⟩ | ⟨-, started⟩
  · exact absurd idle timed
  · exact ⟨(State.scheduleRight_iff s).1 hr, timed, started⟩

/-- So can an active one. -/
theorem State.startable_of_active {s : State} (hs : s.sound = true) (hr : s.scheduleRight = true)
    (active : s.active = true) : s.Startable := by
  rcases State.phases_of_sound hs with ⟨-, off⟩ | ⟨timed, -⟩
  · simp [active] at off
  · exact State.startable_of_timed hs hr timed

/-- A window close with an entry completes the three of R54: the running frame's, the next and the one after
(R48, R56). -/
theorem State.Startable.passRecord_scheduleRight {s : State} (h : s.Startable) (opened : s.round.window ≠ .closed)
    {r : RoundRecord} (hf : r.frame = s.timer.current) (hi : r.incomplete = false) (atMark : Bool) :
    (s.passRecord r atMark).scheduleRight = true := by
  obtain ⟨frame, targets⟩ := h.targets_of_open opened
  simp [State.scheduleRight_iff, State.scheduledTargets, State.passRecord_schedule, frame, targets, hi, hf,
    State.entryOf_target]

/-- Whatever next state the outcome names meets the law of R54. -/
def ScheduleRightAfter (o : Host.Outcome State Fault Refusal) : Prop :=
  ∀ t, o = .next t → t.scheduleRight = true

theorem ScheduleRightAfter.next {t : State} (h : t.scheduleRight = true) : ScheduleRightAfter (.next t) := by
  rintro _ ⟨⟩
  exact h

section
variable {s : State}

theorem State.UnseenBy.scheduleRight {o : Host.Outcome State Fault Refusal} (h : s.UnseenBy o)
    (hr : s.scheduleRight = true) : ScheduleRightAfter o :=
  fun t ht => State.scheduleRight_of_view (h t ht) hr

/-- WINDOW_CLOSE takes the round's record (R37). -/
theorem execWindowClose_scheduleRight (hs : s.sound = true) (hr : s.scheduleRight = true) :
    ScheduleRightAfter (execWindowClose s) := by
  unfold execWindowClose
  split
  next due =>
    obtain ⟨active, marked, -⟩ := due
    have start : (s.withLine (s.line.endRound 240)).Startable :=
      (State.startable_of_active hs hr active).of_view rfl (State.startable_of_active hs hr active).timed
    exact .next (start.passRecord_scheduleRight (by simp [marked]) rfl rfl false)
  next => exact .next hr

/-- LOCAL_WINDOW_CLOSE takes a record with no read fields (R35). -/
theorem execLocalWindowClose_scheduleRight (hs : s.sound = true) (hr : s.scheduleRight = true) :
    ScheduleRightAfter (execLocalWindowClose s) := by
  unfold execLocalWindowClose
  split
  next due =>
    obtain ⟨active, opened⟩ := due
    exact .next ((State.startable_of_active hs hr active).passRecord_scheduleRight (by simp [opened]) rfl rfl false)
  next => exact .next hr

/-- MARK: a rise, also the one at the instant of a window close taken first, starts a frame; any other read
is seen by the tally interface alone (R5, R9). -/
theorem execMark_scheduleRight (hs : s.sound = true) (hr : s.scheduleRight = true) (atWindowClose : Bool) :
    ScheduleRightAfter (execMark s atWindowClose) := by
  unfold execMark
  split
  next rise =>
    have active : s.active = true := by simp_all [State.seesRise]
    exact .next (State.startable_of_active hs hr active).recogniseMark_scheduleRight
  next =>
    split
    next rise =>
      have active : s.active = true := by simp_all [State.seesRiseAtJoin]
      have start := State.startable_of_active hs hr active
      exact .next (start.of_view (t := s.withLine s.line.dropJoinHold) rfl start.timed).recogniseMark_scheduleRight
    next => exact State.UnseenBy.scheduleRight (.due rfl) hr

/-- A local frame start that finds the station in LISTEN changes no window, unless it finds a rise, which is a mark
(R72, log entry 9). -/
theorem State.Startable.listenFrame_scheduleRight (h : s.Startable) (read : Level) :
    (s.listenFrame read).scheduleRight = true := by
  have right := (State.scheduleRight_iff s).2 h.right
  unfold State.listenFrame; dsimp only
  split
  · cases read with
    | dominant => exact State.scheduleRight_of_view (by simp [State.lineLow]) right
    | recessive =>
      dsimp only
      split
      · refine State.Startable.recogniseMark_scheduleRight (h.of_view ?_ h.timed)
        simp
      · exact State.scheduleRight_of_view (by simp [State.found]) right
  · exact State.scheduleRight_of_view (by simp) right

/-- PATIENCE_EXPIRY comes in the wait with no window open (R69). -/
theorem State.wait_of_patienceDue (due : s.patienceDue = true) :
    s.timer.phase ≠ .idle ∧ s.round.window = .closed := by
  unfold State.patienceDue at due
  split at due
  next w wait => exact ⟨by simp [wait], by simp_all⟩
  all_goals contradiction

/-- PATIENCE_EXPIRY opens a local frame, and what the station does then changes no window but by a mark (R69). -/
theorem execPatienceExpiry_scheduleRight (hs : s.sound = true) (hr : s.scheduleRight = true) (read : Level) :
    ScheduleRightAfter (execPatienceExpiry read s) := by
  unfold execPatienceExpiry
  split
  next due =>
    obtain ⟨timed, closed⟩ := State.wait_of_patienceDue due
    have start := (State.startable_of_timed hs hr timed).localFrame closed
    have right := (State.scheduleRight_iff _).2 start.right
    have stalled : s.localFrame.stall.scheduleRight = true :=
      State.scheduleRight_of_view (by simp [State.stall]) right
    cases s.station.state with
    | joining => exact .next stalled
    | synced => exact .next stalled
    | listen => exact .next (start.listenFrame_scheduleRight read)
    | barred => exact .next right
    | off => exact .next right
  next => exact .next hr

/-- START primes the two entries of the lead-in (R55). -/
theorem execStart_scheduleRight (hr : s.scheduleRight = true) (mark : Level) :
    ScheduleRightAfter (execStart mark s) := by
  have primed : (s.started mark).scheduleRight = true := rfl
  unfold execStart
  split
  · cases s.station.state with
    | off =>
      dsimp only
      split
      · exact .next (State.scheduleRight_of_view (by simp) primed)
      · exact .next (State.scheduleRight_of_view (by simp) hr)
    | listen | joining | synced | barred => exact .next (State.scheduleRight_of_view (by simp) hr)
  · exact .next hr

/-- STOP empties the schedule (R54, R82). -/
theorem execStop_scheduleRight (hr : s.scheduleRight = true) : ScheduleRightAfter (execStop s) := by
  have empty : s.stopped.scheduleRight = true := rfl
  unfold execStop
  split
  · cases s.station.state with
    | off => exact .next (State.scheduleRight_of_view (by simp) hr)
    | listen | joining | synced | barred => exact .next (State.scheduleRight_of_view (by simp) empty)
  · exact .next hr

end

/-- Every command keeps the law of R54. -/
theorem exec_scheduleRight (c : Instr) {s : State} (hs : s.sound = true) (hr : s.scheduleRight = true) :
    ScheduleRightAfter (exec c s) := by
  cases quiet : leavesSchedule c with
  | true => exact (exec_unseen c s quiet).scheduleRight hr
  | false =>
    cases c with
    | start mark => exact execStart_scheduleRight hr mark
    | stop => exact execStop_scheduleRight hr
    | powerOnReset => exact .next rfl
    | mark atWindowClose => exact execMark_scheduleRight hs hr atWindowClose
    | windowClose => exact execWindowClose_scheduleRight hs hr
    | localWindowClose => exact execLocalWindowClose_scheduleRight hs hr
    | patienceExpiry read => exact execPatienceExpiry_scheduleRight hs hr read
    | _ => cases quiet

/-! ### The step lemma (R54) -/

/-- The law of R54 names at most three frames, all different. -/
theorem State.scheduledTargets_bounds (s : State) :
    s.scheduledTargets.length ≤ 3 ∧ s.scheduledTargets.Nodup := by
  unfold State.scheduledTargets
  repeat' split
  all_goals simp

/-- Settles O57: what the law names bounds the schedule, and every command keeps the law. -/
theorem everyStepKeepsTheScheduleInOrder : Obligations.EveryStepKeepsTheScheduleInOrder := by
  intro s t hs hr h
  have right : t.scheduleRight = true := by
    unfold step at h
    split at h
    next => cases h; exact hr
    next c rest _ => exact exec_scheduleRight c (s := s.withPending rest) hs hr t h
  have targets := (State.scheduleRight_iff t).1 right
  obtain ⟨length, nodup⟩ := t.scheduledTargets_bounds
  rw [← targets] at length nodup
  exact ⟨right, by simpa using length, nodup⟩

end Sys2Proof.Machine
end

section
/-! SUPPORT. Family 03, the entries of window closes: which rounds they are made from and how far they lie from the
standing value. -/

namespace Sys2Proof.Machine

/-! ### The value of an entry (R48 to R50) -/

/-- S moved toward a wanted value stays within the step limit of S (R50). -/
theorem stepToward_within (limit S wanted : Nat) :
    (stepToward limit S wanted : Int) - S ≤ limit ∧ (S : Int) - stepToward limit S wanted ≤ limit := by
  unfold stepToward clampInt
  omega

/-- An AGREED entry's value lies within the step limit of S (R50). -/
theorem entryValue_of_agreed {it : Items} {r : RoundRecord} (h : entrySource it r = .agreed) (S : Nat) :
    (entryValue it r S : Int) - S ≤ it.stepLimit ∧ (S : Int) - entryValue it r S ≤ it.stepLimit := by
  simp only [entryValue, h]
  split
  · exact stepToward_within _ _ _
  · omega

/-- A KEPT, HELD or VOID entry's value is S (R48). -/
theorem entryValue_of_standing {it : Items} {r : RoundRecord}
    (h : entrySource it r = .kept ∨ entrySource it r = .held ∨ entrySource it r = .void) (S : Nat) :
    entryValue it r S = S := by
  rcases h with h | h | h <;> simp only [entryValue, h]

/-! ### The round of an entry (R33, R44, R48) -/

/-- The outcome that goes with the source of an entry: CLEAN and driven for AGREED, KEPT and HELD, VOID for VOID
(R48). -/
theorem entrySource_outcome (it : Items) (r : RoundRecord) :
    entrySource it r = .local ∨ (entrySource it r = .void ∧ r.outcome = some .void) ∨
    (entrySource it r ≠ .void ∧ r.drivenClean = true) := by
  unfold entrySource RoundRecord.drivenClean
  cases r.drove with
  | false => exact .inl rfl
  | true =>
    simp only [Bool.not_true, Bool.false_eq_true, if_false]
    split
    next outcome => exact .inr (.inl ⟨rfl, outcome⟩)
    next outcome =>
      repeat' split
      all_goals simp [outcome]
    all_goals exact .inl rfl

/-- At a round with an entry of its own the standing value read is adopted if the round was CLEAN and driven, else S
stands (R44, R45). -/
theorem adoptedStanding_of_source {it : Items} {r : RoundRecord} (h : entrySource it r ≠ .local) (barred : Bool)
    (S : Nat) : adoptedStanding barred r S = if r.drivenClean then (r.standing.map (·.1)).getD S else S := by
  have unheard : r.outcome ≠ some .heard := by
    rcases entrySource_outcome it r with loc | ⟨-, void⟩ | ⟨-, clean⟩
    · exact absurd loc h
    · simp [void]
    · simp_all [RoundRecord.drivenClean]
  simp [adoptedStanding, unheard]

/-- A complete round is CLEAN exactly when the station drove it to the end, did not withdraw and cast no void vote,
and the void bit read recessive (R33). -/
theorem State.roundOutcome_clean_iff (s : State) :
    s.roundOutcome = some .clean ↔
      s.round.drove = true ∧ s.line.withdrawn = false
        ∧ bitAt s.round.draft.bits 225 = .recessive ∧ s.round.voidVote = false := by
  unfold State.roundOutcome; dsimp only
  cases s.line.withdrawn with
  | true => simp
  | false =>
    cases s.round.drove with
    | true => cases bitAt s.round.draft.bits 225 <;> simp
    | false =>
      simp only [Bool.false_eq_true, if_false, false_and, iff_false]
      split <;> simp

/-- The record of a complete round is CLEAN and driven under the same conditions, the station having driven from the
mark (R37). -/
theorem State.completeRecord_drivenClean (s : State) :
    s.completeRecord.drivenClean = true ↔
      s.round.draft.drove = true ∧ s.round.drove = true ∧ s.line.withdrawn = false
        ∧ bitAt s.round.draft.bits 225 = .recessive ∧ s.round.voidVote = false := by
  simp [RoundRecord.drivenClean, State.completeRecord, State.roundOutcome_clean_iff]

/-- The standing value read in a complete round, if its presence bit read dominant (R12). -/
theorem State.completeRecord_standing (s : State) (S : Nat) :
    (s.completeRecord.standing.map (·.1)).getD S =
      if bitAt s.round.draft.bits 178 = .dominant then valueRead s.round.draft.bits 179 12 else S := by
  simp only [State.completeRecord, ledValue]
  split <;> rfl

/-- WINDOW_CLOSE of a complete round appends the entry of its record. -/
theorem windowClose_entry {s t : State} {e : Entry} (marked : s.round.window = .marked)
    (active : s.station.state ≠ .off) (complete : s.round.draft.bits.length = 226)
    (h : exec .windowClose s = .next t) (appended : t.schedule = s.schedule ++ [e]) :
    e = (s.withLine (s.line.endRound 240)).entryOf (s.withLine (s.line.endRound 240)).completeRecord := by
  have due : s.active = true ∧ s.round.window = .marked ∧ s.nextBit = roundBits :=
    ⟨by simpa [State.active] using active, marked, complete⟩
  simp only [exec, execWindowClose, due, if_true, and_self] at h
  cases h
  simpa [State.passRecord_schedule, State.completeRecord] using appended.symm

/-- The laws of R51 for the entry of a close, in terms of the record: `S` is the standing value of its round. -/
theorem State.entryOf_within (s : State) (r : RoundRecord) :
    let S := if r.drivenClean then (r.standing.map (·.1)).getD s.agree.standing else s.agree.standing
    ((s.entryOf r).source = .agreed → ((s.entryOf r).arrayExv : Int) - S ≤ s.items.stepLimit
      ∧ (S : Int) - (s.entryOf r).arrayExv ≤ s.items.stepLimit) ∧
    ((s.entryOf r).source = .kept ∨ (s.entryOf r).source = .held ∨ (s.entryOf r).source = .void →
      (s.entryOf r).arrayExv = S) ∧
    ((s.entryOf r).source = .agreed ∨ (s.entryOf r).source = .kept ∨ (s.entryOf r).source = .held →
      r.drivenClean = true) := by
  intro S
  have source : (s.entryOf r).source = entrySource s.items r := rfl
  have value (h : entrySource s.items r ≠ .local) : (s.entryOf r).arrayExv = entryValue s.items r S := by
    show entryValue s.items r _ = _
    rw [adoptedStanding_of_source h]
  rw [source]
  refine ⟨fun agreed => ?_, fun stands => ?_, fun result => ?_⟩
  · rw [value (by simp [agreed])]
    exact entryValue_of_agreed agreed S
  · rw [value (by rcases stands with h | h | h <;> simp [h]), entryValue_of_standing stands]
  · rcases entrySource_outcome s.items r with loc | ⟨void, -⟩ | ⟨-, clean⟩
    · simp [loc] at result
    · simp [void] at result
    · exact clean

/-- Settles O47: AGREED, KEPT and HELD entries come of CLEAN driven rounds alone, and every entry but a LOCAL one is
made from the standing value that its round leaves. -/
theorem entriesStayWithinTheStepLimit : Obligations.EntriesStayWithinTheStepLimit := by
  intro s t e marked active complete h appended taken S
  obtain rfl := windowClose_entry marked active complete h appended
  have clean : (s.withLine (s.line.endRound 240)).completeRecord.drivenClean = true ↔ taken :=
    State.completeRecord_drivenClean _
  have standing : S = if taken then if bitAt s.round.draft.bits 178 = .dominant then
      valueRead s.round.draft.bits 179 12 else s.agree.standing else s.agree.standing := ite_and ..
  have within := (s.withLine (s.line.endRound 240)).entryOf_within
    (s.withLine (s.line.endRound 240)).completeRecord
  simp only [clean, State.completeRecord_standing] at within
  rw [standing]
  exact within

end Sys2Proof.Machine
end

section
/-! SUPPORT. Family 09, the output stream: what the queue holds in each part of a frame, what every operation of
the stream does to it, and the step lemma of R143 and R148. -/

namespace Sys2Proof.Machine

/-! ### The stream as a reader sees it (R148) -/

/-- A reader passes a run of records and then the one after it. -/
theorem StreamShape.readAll_concat (start : StreamShape) (q : List StreamRecord) (r : StreamRecord) :
    start.readAll (q ++ [r]) = (start.readAll q).bind (·.read r) := by
  induction q generalizing start with
  | nil => simp [StreamShape.readAll]
  | cons first rest ih =>
    simp only [List.cons_append, StreamShape.readAll, Option.bind_assoc]
    exact Option.bind_congr fun next _ => ih next

/-- The queue, read from somewhere, leaves the reader here. -/
def OutputUnit.LeadsTo (o : OutputUnit) (ending : StreamShape) : Prop :=
  ∃ start : StreamShape, start.readAll o.queue = some ending

/-- A record with a place after the queue's last goes to the queue's end. -/
theorem OutputUnit.LeadsTo.concat {o o' : OutputUnit} {shape ending : StreamShape} {r : StreamRecord}
    (h : o.LeadsTo shape) (queue : o'.queue = o.queue ++ [r]) (read : shape.read r = some ending) :
    o'.LeadsTo ending := by
  obtain ⟨start, run⟩ := h
  exact ⟨start, by simp [queue, StreamShape.readAll_concat, run, read]⟩

/-- What is left of the queue once its front record has gone ends where it did. -/
theorem OutputUnit.LeadsTo.tail {o o' : OutputUnit} {ending : StreamShape} {r : StreamRecord}
    (h : o.LeadsTo ending) (queue : o.queue = r :: o'.queue) : o'.LeadsTo ending := by
  obtain ⟨start, run⟩ := h
  rw [queue, StreamShape.readAll, Option.bind_eq_some_iff] at run
  obtain ⟨next, -, run⟩ := run
  exact ⟨next, run⟩

/-! ### The budgets (R143, R149) -/

/-- The entry reserved for the TAIL of a frame that the stream is in (R144). -/
def OutputUnit.reserved (o : OutputUnit) : Nat := if o.position = .opened then 1 else 0

/-- The budgets of the queue, by name. -/
structure OutputUnit.Budgeted (o : OutputUnit) : Prop where
  control : o.controlHeld = (o.queue.map (·.controlEntries)).sum + o.reserved
  rows : o.rowsHeld = (o.queue.map (·.rowEntries)).sum
  pixels : o.pixelsHeld = (o.queue.map (·.pixelEntries)).sum
  controlFits : o.controlHeld ≤ 8
  rowsFit : o.rowsHeld ≤ 16
  pixelsFit : o.pixelsHeld ≤ 16384
  started : o.queue = [] → o.accepted = 0
  unsent : ∀ r ∈ o.queue.head?, o.accepted < r.words.length

/-- The Bool of R143 is these facts. -/
theorem State.budgetsRight_iff (s : State) : s.budgetsRight = true ↔ s.out.Budgeted := by
  have front : (match s.out.queue with
      | [] => s.out.accepted == 0
      | r :: _ => s.out.accepted < r.words.length) = true ↔
      (s.out.queue = [] → s.out.accepted = 0) ∧ ∀ r ∈ s.out.queue.head?, s.out.accepted < r.words.length := by
    cases s.out.queue <;> simp
  unfold State.budgetsRight
  simp only [Bool.and_eq_true, beq_iff_eq, decide_eq_true_eq]
  constructor
  · rintro ⟨⟨⟨⟨⟨⟨control, rows⟩, pixels⟩, controlFits⟩, rowsFit⟩, pixelsFit⟩, sending⟩
    obtain ⟨started, unsent⟩ := front.1 sending
    exact ⟨control, rows, pixels, controlFits, rowsFit, pixelsFit, started, unsent⟩
  · rintro ⟨control, rows, pixels, controlFits, rowsFit, pixelsFit, started, unsent⟩
    exact ⟨⟨⟨⟨⟨⟨control, rows⟩, pixels⟩, controlFits⟩, rowsFit⟩, pixelsFit⟩, front.2 ⟨started, unsent⟩⟩

/-- Every record has a word to send (R166). -/
theorem StreamRecord.words_pos (r : StreamRecord) : 0 < r.words.length := by
  cases r <;> exact Nat.succ_pos _

/-- A record put at the queue's end keeps the budgets if it takes, with what is then reserved, no more than the
queue has left (R143, R144, R146, R152). -/
theorem OutputUnit.Budgeted.concat {o o' : OutputUnit} {r : StreamRecord} (h : o.Budgeted)
    (queue : o'.queue = o.queue ++ [r]) (accepted : o'.accepted = o.accepted)
    (control : o'.controlHeld + o.reserved = o.controlHeld + r.controlEntries + o'.reserved)
    (rows : o'.rowsHeld = o.rowsHeld + r.rowEntries) (pixels : o'.pixelsHeld = o.pixelsHeld + r.pixelEntries)
    (fits : o'.controlHeld ≤ 8 ∧ o'.rowsHeld ≤ 16 ∧ o'.pixelsHeld ≤ 16384) : o'.Budgeted where
  control := by
    have before := h.control
    simp only [queue, List.map_append, List.sum_append, List.map_singleton, List.sum_singleton]
    omega
  rows := by simp [queue, rows, h.rows]
  pixels := by simp [queue, pixels, h.pixels]
  controlFits := fits.1
  rowsFit := fits.2.1
  pixelsFit := fits.2.2
  started := by simp [queue]
  unsent := by
    rw [queue, accepted]
    cases front : o.queue with
    | nil => simp [h.started front, r.words_pos]
    | cons first rest => simpa [front] using h.unsent

/-- A record whose last word has been accepted gives back what it took (R149). -/
theorem OutputUnit.Budgeted.giveBack {o : OutputUnit} {r : StreamRecord} {rest : List StreamRecord}
    (h : o.Budgeted) (queue : o.queue = r :: rest) : (o.giveBack r rest).Budgeted := by
  obtain ⟨control, rows, pixels, controlFits, rowsFit, pixelsFit, -, -⟩ := h
  simp only [queue, List.map_cons, List.sum_cons] at control rows pixels
  exact {
    control := show o.controlHeld - r.controlEntries = (rest.map (·.controlEntries)).sum + o.reserved by omega
    rows := show o.rowsHeld - r.rowEntries = (rest.map (·.rowEntries)).sum by omega
    pixels := show o.pixelsHeld - r.pixelEntries = (rest.map (·.pixelEntries)).sum by omega
    controlFits := (Nat.sub_le ..).trans controlFits
    rowsFit := (Nat.sub_le ..).trans rowsFit
    pixelsFit := (Nat.sub_le ..).trans pixelsFit
    started := fun _ => rfl
    unsent := fun next _ => next.words_pos }

/-- The next word of the front record, while it has one (R149). -/
theorem OutputUnit.Budgeted.nextWord {o : OutputUnit} {r : StreamRecord} {rest : List StreamRecord}
    (h : o.Budgeted) (queue : o.queue = r :: rest) (more : o.accepted + 1 < r.words.length) :
    ({ o with accepted := o.accepted + 1 } : OutputUnit).Budgeted where
  control := h.control
  rows := h.rows
  pixels := h.pixels
  controlFits := h.controlFits
  rowsFit := h.rowsFit
  pixelsFit := h.pixelsFit
  started := by simp [queue]
  unsent := by simpa [queue] using more

/-! ### The output unit in the parts of a frame (R142, R144, R147) -/

/-- The stream is between frames, with this admission of the frame now running. -/
structure OutputUnit.AtGap (o : OutputUnit) (a : Admission) : Prop where
  budgeted : o.Budgeted
  position : o.position = .gap
  admission : o.admission = a
  reads : o.LeadsTo .gap

/-- The stream is in an admitted frame, of which only rows below a bound have been offered. -/
structure OutputUnit.InFrame (o : OutputUnit) (frame : FrameNo) (bound : Nat) : Prop where
  budgeted : o.Budgeted
  position : o.position = .opened
  admission : o.admission = .admitted
  reads : ∃ next ≤ bound, o.LeadsTo (.inFrame frame next)
  counted : o.delivered + o.dropped ≤ bound

/-- The frame now running, before its read end, was skipped, or it is admitted and in the stream (R144, R145). -/
def OutputUnit.Running (o : OutputUnit) (frame : FrameNo) (bound : Nat) : Prop :=
  o.AtGap .skipped ∨ o.InFrame frame bound

/-- A bound on the rows offered may grow. -/
theorem OutputUnit.Running.mono {o : OutputUnit} {frame : FrameNo} {bound bound' : Nat}
    (h : o.Running frame bound) (le : bound ≤ bound') : o.Running frame bound' := by
  refine h.imp_right fun ⟨budgeted, position, admission, ⟨next, below, reads⟩, counted⟩ => ?_
  exact ⟨budgeted, position, admission, ⟨next, below.trans le, reads⟩, counted.trans le⟩

/-- A HEAD offered between frames opens the frame in the stream or skips it (R144, R145). -/
theorem State.offerHead_running {s : State} (h : s.out.AtGap .none) (e : Entry) :
    (s.offerHead e).out.Running s.timer.current 0 := by
  obtain ⟨budgeted, position, -, reads⟩ := h
  unfold State.offerHead; dsimp only
  split
  next room =>
    refine .inr ⟨budgeted.concat rfl rfl ?_ rfl rfl ?_, rfl, rfl, ⟨0, le_rfl, reads.concat rfl rfl⟩, le_rfl⟩
    · simp [OutputUnit.reserved, position, StreamRecord.controlEntries]
    · unfold OutputUnit.controlFree at room
      exact ⟨show s.out.controlHeld + 2 ≤ 8 by omega, budgeted.rowsFit, budgeted.pixelsFit⟩
  next => exact .inl ⟨{ budgeted with }, position, rfl, reads⟩

/-- A row is offered once, in its order (R146). -/
theorem State.offerRow_running {s : State} {row : Nat} (h : s.out.Running s.timer.current row)
    (pixels : List Pixel) : (s.offerRow row pixels).out.Running s.timer.current (row + 1) := by
  unfold State.offerRow
  rcases h with gap | ⟨budgeted, position, admission, ⟨next, below, reads⟩, counted⟩
  · simp only [gap.admission]
    exact .inl gap
  · simp only [admission]
    split
    next fits =>
      simp only [OutputUnit.rowFits, Bool.and_eq_true, decide_eq_true_eq] at fits
      refine .inr ⟨budgeted.concat rfl rfl rfl rfl rfl ⟨budgeted.controlFits, fits⟩, position, rfl,
        ⟨row + 1, le_rfl, reads.concat rfl (by simp [StreamShape.read, below])⟩, ?_⟩
      show s.out.delivered + 1 + s.out.dropped ≤ row + 1
      omega
    next =>
      exact .inr ⟨{ budgeted with }, position, rfl, ⟨next, below.trans (Nat.le_succ row), reads⟩,
        Nat.succ_le_succ counted⟩

/-- The TAIL closes the frame in the stream, in the entry reserved for it, and ends its admission; where there is no
frame before its read end it changes nothing (R147). -/
theorem State.offerTail_atGap {s : State} {bound : Nat}
    (h : s.out.AtGap .none ∨ s.out.Running s.timer.current bound) (cut stopped : Bool) :
    (s.offerTail cut stopped).out.AtGap .none := by
  unfold State.offerTail
  rcases h with gap | skipped | ⟨budgeted, position, admission, ⟨next, -, reads⟩, -⟩
  · simp only [gap.admission]
    exact gap
  · simp only [skipped.admission]
    exact ⟨{ skipped.budgeted with }, skipped.position, rfl, skipped.reads⟩
  · simp only [admission]
    refine ⟨budgeted.concat rfl rfl ?_ rfl rfl ⟨budgeted.controlFits, budgeted.rowsFit, budgeted.pixelsFit⟩, rfl, rfl,
      reads.concat rfl (by simp [StreamShape.read, State.tailRecord])⟩
    simp [OutputUnit.reserved, position, StreamRecord.controlEntries]

/-! ### The laws of the stream by the part of the frame (R128, R142 to R148) -/

/-- The laws of the output stream, by how far the frame now running has come. -/
inductive State.StreamLaw (s : State) : Prop
  /-- No frame runs, or it has passed its read end: nothing of it is in the stream or is still to come. -/
  | past (out : s.out.AtGap .none) (pending : s.rows.pendingRow = none)
      (readEnd : ∀ k, s.timer.phase = .counting k → s.timer.readEndPassed = true ∧ s.items.rowsRead ≤ k)
      (tail : s.rows.tailOffered = true ↔ s.rows.phase = .frame)
  /-- A frame before its read end with no row pending: the rows below the slot now counting are settled. -/
  | settled {k : Nat} (out : s.out.Running s.timer.current k) (pending : s.rows.pendingRow = none)
      (slot : s.timer.phase = .counting k) (running : s.timer.readEndPassed = false)
      (within : k ≤ s.items.rowsRead) (tail : s.rows.tailOffered = false)
  /-- A frame before its read end with a row pending, its deadline the end of the slot now counting. -/
  | awaiting {row : Nat} (out : s.out.Running s.timer.current row) (pending : s.rows.pendingRow = some ⟨row, row + 1⟩)
      (slot : s.timer.phase = .counting (row + 1)) (running : s.timer.readEndPassed = false)
      (within : row < s.items.rowsRead) (tail : s.rows.tailOffered = false)

/-- The shape of the queue, by the stream position. -/
theorem State.streamShaped_iff (s : State) :
    s.streamShaped ↔ (s.out.position = .gap ∧ s.out.LeadsTo .gap) ∨
      (s.out.position = .opened ∧ ∃ next ≤ s.rowsOffered, s.out.LeadsTo (.inFrame s.timer.current next)) := by
  unfold State.streamShaped
  constructor
  · rintro ⟨start, ending, run, fits⟩
    split at fits
    next position => exact .inl ⟨position, start, run⟩
    next f next position =>
      obtain ⟨rfl, below⟩ := fits
      exact .inr ⟨position, next, below, start, run⟩
    next => exact fits.elim
  · rintro (⟨position, start, run⟩ | ⟨position, next, below, start, run⟩)
    · exact ⟨start, _, run, by simp [position]⟩
    · exact ⟨start, _, run, by simp [position, below]⟩

/-- An admitted frame is in the stream, and no other is, the rows counted being rows offered (R142, R144). -/
theorem State.out_running_iff {s : State} {bound : Nat} (offered : s.rowsOffered = bound) :
    s.out.Running s.timer.current bound ↔ s.streamShaped ∧ s.out.Budgeted ∧ s.out.admission ≠ .none
      ∧ (s.out.position = .opened ↔ s.out.admission = .admitted)
      ∧ (s.out.admission = .admitted → s.out.delivered + s.out.dropped ≤ bound) := by
  rw [State.streamShaped_iff, offered]
  constructor
  · rintro (⟨budgeted, position, admission, reads⟩ | ⟨budgeted, position, admission, reads, counted⟩)
    · exact ⟨.inl ⟨position, reads⟩, budgeted, by simp [admission], by simp [position, admission], by simp [admission]⟩
    · exact ⟨.inr ⟨position, reads⟩, budgeted, by simp [admission], by simp [position, admission], fun _ => counted⟩
  · rintro ⟨⟨position, reads⟩ | ⟨position, reads⟩, budgeted, begun, agree, counted⟩
    · refine .inl ⟨budgeted, position, ?_, reads⟩
      cases admission : s.out.admission <;> simp_all
    · exact .inr ⟨budgeted, position, agree.1 position, reads, counted (agree.1 position)⟩

/-- Nothing of the frame is in the stream when it is neither admitted nor skipped. -/
theorem State.out_atGap_none_iff {s : State} :
    s.out.AtGap .none ↔ s.streamShaped ∧ s.out.Budgeted ∧ s.out.admission = .none
      ∧ (s.out.position = .opened ↔ s.out.admission = .admitted) := by
  rw [State.streamShaped_iff]
  constructor
  · rintro ⟨budgeted, position, admission, reads⟩
    exact ⟨.inl ⟨position, reads⟩, budgeted, admission, by simp [position, admission]⟩
  · rintro ⟨⟨position, reads⟩ | ⟨position, -⟩, budgeted, ended, agree⟩
    · exact ⟨budgeted, position, ended, reads⟩
    · simp [ended, position] at agree

/-- With no frame before its read end, the laws of the manual leave nothing of one. -/
theorem State.streamRight_past_iff {s : State}
    (past : ∀ k, s.timer.phase = .counting k → s.timer.readEndPassed = true) :
    s.streamRight ↔ s.out.AtGap .none ∧ s.rows.pendingRow = none
      ∧ (∀ k, s.timer.phase = .counting k → s.items.rowsRead ≤ k)
      ∧ (s.rows.tailOffered = true ↔ s.rows.phase = .frame) := by
  have pending : s.pendingRight = true ↔ s.rows.pendingRow = none := by
    cases row : s.rows.pendingRow with
    | none => simp [State.pendingRight, row]
    | some p => simpa [State.pendingRight, row] using fun _ running slot => absurd (past _ slot) (by simp [running])
  have admission : s.admissionRight = true ↔ (∀ k, s.timer.phase = .counting k → s.items.rowsRead ≤ k)
      ∧ s.out.admission = .none ∧ (s.out.position = .opened ↔ s.out.admission = .admitted) := by
    unfold State.admissionRight
    cases slot : s.timer.phase with
    | counting k => simpa [past k slot, and_assoc] using fun _ ended _ => Or.inl (by simp [ended])
    | _ => simpa using fun ended _ => Or.inl (by simp [ended])
  rw [State.streamRight, State.budgetsRight_iff, pending, admission, State.out_atGap_none_iff]
  have tail (ended : s.out.admission = .none) :
      s.tailRight = true ↔ (s.rows.tailOffered = true ↔ s.rows.phase = .frame) := by
    cases phase : s.rows.phase <;> simp [State.tailRight, phase, ended]
  grind

/-- Before its read end the laws of the manual name the frame, its rows offered and the row still pending. -/
theorem State.streamRight_running_iff {s : State} {k : Nat} (slot : s.timer.phase = .counting k)
    (running : s.timer.readEndPassed = false) :
    s.streamRight ↔ s.out.Running s.timer.current s.rowsOffered ∧ k ≤ s.items.rowsRead
      ∧ (∀ p ∈ s.rows.pendingRow, p.row < s.items.rowsRead ∧ k = p.row + 1 ∧ p.deadline = p.row + 1)
      ∧ s.rows.tailOffered = false := by
  have pending : s.pendingRight = true ↔
      ∀ p ∈ s.rows.pendingRow, p.row < s.items.rowsRead ∧ k = p.row + 1 ∧ p.deadline = p.row + 1 := by
    cases row : s.rows.pendingRow <;> simp [State.pendingRight, row, slot, running, and_assoc]
  have admission : s.admissionRight = true ↔ k ≤ s.items.rowsRead ∧ s.out.admission ≠ .none
      ∧ (s.out.position = .opened ↔ s.out.admission = .admitted)
      ∧ (s.out.admission = .admitted → s.out.delivered + s.out.dropped ≤ s.rowsOffered) := by
    simp [State.admissionRight, slot, running, and_assoc, imp_iff_not_or]
  have tail (begun : s.out.admission ≠ .none) : s.tailRight = true ↔ s.rows.tailOffered = false := by
    have standing : (s.out.admission == .none) = false := beq_eq_false_iff_ne.2 begun
    cases phase : s.rows.phase <;> simp [State.tailRight, phase, standing]
  rw [State.streamRight, State.budgetsRight_iff, pending, admission, State.out_running_iff rfl]
  grind

/-- The laws of the manual leave only the three parts of a frame, and hold in each. -/
theorem State.streamRight_iff (s : State) : s.streamRight ↔ s.StreamLaw := by
  constructor
  · intro h
    by_cases past : ∀ k, s.timer.phase = .counting k → s.timer.readEndPassed = true
    · obtain ⟨out, pending, within, tail⟩ := (State.streamRight_past_iff past).1 h
      exact .past out pending (fun k slot => ⟨past k slot, within k slot⟩) tail
    · simp only [not_forall, Bool.not_eq_true] at past
      obtain ⟨k, slot, running⟩ := past
      obtain ⟨out, within, pending, tail⟩ := (State.streamRight_running_iff slot running).1 h
      cases row : s.rows.pendingRow with
      | none => exact .settled (by simpa [State.rowsOffered, row, slot] using out) row slot running within tail
      | some p =>
        obtain ⟨below, rfl, deadline⟩ := pending p row
        exact .awaiting (by simpa [State.rowsOffered, row] using out) (by rw [row, ← deadline]) slot running below tail
  · rintro (⟨out, pending, readEnd, tail⟩ | ⟨out, pending, slot, running, within, tail⟩
      | ⟨out, pending, slot, running, within, tail⟩)
    · exact (State.streamRight_past_iff fun k slot => (readEnd k slot).1).2
        ⟨out, pending, fun k slot => (readEnd k slot).2, tail⟩
    · exact (State.streamRight_running_iff slot running).2
        ⟨by simpa [State.rowsOffered, pending, slot] using out, within, by simp [pending], tail⟩
    · exact (State.streamRight_running_iff slot running).2
        ⟨by simpa [State.rowsOffered, pending] using out, within, by simp [pending, within], tail⟩

/-! ### What leaves the laws of the stream as they stand -/

/-- The output unit without its notices and the two counts that HEADs and NOTICEs take from it. -/
def OutputUnit.stream (o : OutputUnit) : OutputUnit := { o with notices := [], lost := 0, skip := 0 }

/-- The parts of a frame are parts of the stream alone. -/
theorem OutputUnit.stream_iff (o : OutputUnit) :
    (∀ a, o.stream.AtGap a ↔ o.AtGap a) ∧ ∀ frame bound, o.stream.InFrame frame bound ↔ o.InFrame frame bound := by
  have budgeted : o.stream.Budgeted ↔ o.Budgeted := ⟨fun h => { h with }, fun h => { h with }⟩
  exact ⟨fun _ => ⟨fun h => { h with budgeted := budgeted.1 h.budgeted },
      fun h => { h with budgeted := budgeted.2 h.budgeted }⟩,
    fun _ _ => ⟨fun h => { h with budgeted := budgeted.1 h.budgeted },
      fun h => { h with budgeted := budgeted.2 h.budgeted }⟩⟩

/-- All that the laws of the stream look at. -/
def State.streamView (s : State) :
    OutputUnit × (TimerPhase × FrameNo × Bool) × (RowPhase × Option PendingRow × Bool) × Nat :=
  (s.out.stream, (s.timer.phase, s.timer.current, s.timer.readEndPassed),
    (s.rows.phase, s.rows.pendingRow, s.rows.tailOffered), s.items.rowsRead)

/-- An output unit in the same part of every frame. -/
def OutputUnit.Follows (o' o : OutputUnit) : Prop :=
  (∀ a, o.AtGap a → o'.AtGap a) ∧ ∀ frame bound, o.InFrame frame bound → o'.InFrame frame bound

theorem OutputUnit.Follows.of_stream {o o' : OutputUnit} (h : o'.stream = o.stream) : o'.Follows o := by
  obtain ⟨gap, inFrame⟩ := o.stream_iff
  obtain ⟨gap', inFrame'⟩ := o'.stream_iff
  exact ⟨fun a part => (gap' a).1 (h ▸ (gap a).2 part), fun f b part => (inFrame' f b).1 (h ▸ (inFrame f b).2 part)⟩

theorem OutputUnit.Follows.running {o o' : OutputUnit} (h : o'.Follows o) {frame : FrameNo} {bound : Nat}
    (r : o.Running frame bound) : o'.Running frame bound :=
  r.imp (h.1 _) (h.2 _ _)

/-- The laws of the stream hold with an output unit that follows the frame, all else standing alike. -/
theorem State.StreamLaw.of_follows {s t : State} (law : s.StreamLaw) (out : t.out.Follows s.out)
    (timer : (t.timer.phase, t.timer.current, t.timer.readEndPassed)
      = (s.timer.phase, s.timer.current, s.timer.readEndPassed))
    (rows : (t.rows.phase, t.rows.pendingRow, t.rows.tailOffered)
      = (s.rows.phase, s.rows.pendingRow, s.rows.tailOffered))
    (rowsRead : t.items.rowsRead = s.items.rowsRead) : t.StreamLaw := by
  simp only [Prod.mk.injEq] at timer rows
  obtain ⟨phase, current, passed⟩ := timer
  obtain ⟨rowPhase, row, tailOffered⟩ := rows
  cases law with
  | past unit pending readEnd tail =>
    exact .past (out.1 _ unit) (by rw [row, pending]) (by rwa [phase, passed, rowsRead])
      (by rwa [rowPhase, tailOffered])
  | settled unit pending slot running within tail =>
    exact .settled (by rw [current]; exact out.running unit) (by rw [row, pending]) (by rw [phase, slot])
      (by rw [passed, running]) (by rwa [rowsRead]) (by rw [tailOffered, tail])
  | awaiting unit pending slot running within tail =>
    exact .awaiting (by rw [current]; exact out.running unit) (by rw [row, pending]) (by rw [phase, slot])
      (by rw [passed, running]) (by rwa [rowsRead]) (by rw [tailOffered, tail])

/-- The laws of the stream hold of the view. -/
theorem State.StreamLaw.of_view {s t : State} (law : s.StreamLaw) (h : t.streamView = s.streamView) :
    t.StreamLaw := by
  simp only [State.streamView, Prod.mk.injEq] at h
  obtain ⟨out, timer, rows, rowsRead⟩ := h
  exact law.of_follows (.of_stream out) (by simp [timer]) (by simp [rows]) rowsRead

/-- A close never changes whether the read end has passed (R76). -/
theorem timerClose_readEndPassed (r : RoundRecord) (t : FrameTimer) :
    (timerClose r t).1.readEndPassed = t.readEndPassed := by
  unfold timerClose
  repeat' split
  all_goals rfl

@[simp] theorem State.passRecord_readEndPassed (s : State) (r : RoundRecord) (atMark : Bool) :
    (s.passRecord r atMark).timer.readEndPassed = s.timer.readEndPassed := by
  unfold State.passRecord; dsimp only
  split <;> simp [timerClose_readEndPassed]

section
variable (s : State)

@[simp] theorem State.withLine_streamView (x : TallyInterface) : (s.withLine x).streamView = s.streamView := rfl
@[simp] theorem State.withRound_streamView (x : RoundEngine) : (s.withRound x).streamView = s.streamView := rfl
@[simp] theorem State.withStation_streamView (x : StationController) :
    (s.withStation x).streamView = s.streamView := rfl
@[simp] theorem State.withFreeCount_streamView (x : Nat) : (s.withFreeCount x).streamView = s.streamView := rfl
@[simp] theorem State.answer_streamView (r : CommandResult) : (s.answer r).streamView = s.streamView := rfl

@[simp] theorem State.createMerged_streamView (qs : List (List Notice)) :
    (s.createMerged qs).streamView = s.streamView := by
  simp [State.streamView, OutputUnit.stream]
@[simp] theorem State.holdMark_streamView (j : Option Level) : (s.holdMark j).streamView = s.streamView := by
  simp [State.streamView]
@[simp] theorem State.passRecord_streamView (r : RoundRecord) (atMark : Bool) :
    (s.passRecord r atMark).streamView = s.streamView := by
  simp [State.streamView, OutputUnit.stream]
@[simp] theorem State.sampleBit_streamView (read : Level) : (s.sampleBit read).streamView = s.streamView := by
  simp [State.streamView, OutputUnit.stream]
@[simp] theorem State.markFault_streamView : s.markFault.streamView = s.streamView := by
  simp [State.streamView, OutputUnit.stream]
@[simp] theorem State.stall_streamView : s.stall.streamView = s.streamView := by
  simp [State.streamView, OutputUnit.stream]
@[simp] theorem State.found_streamView : s.found.streamView = s.streamView := by
  simp [State.streamView, OutputUnit.stream]
@[simp] theorem State.lineLow_streamView : s.lineLow.streamView = s.streamView := by
  simp [State.streamView, OutputUnit.stream]

/-- A close at a mark changes nothing of the stream, as any close (R36, R37). -/
@[simp] theorem State.closeAtMark_streamView : s.closeAtMark.streamView = s.streamView := by
  unfold State.closeAtMark
  repeat' split
  all_goals simp

/-- Another control port with as many rows read. -/
theorem State.withPort_streamView {x : ControlPort} (rowsRead : x.items.rowsRead = s.items.rowsRead) :
    (s.withPort x).streamView = s.streamView := by
  simp [State.streamView, rowsRead]

end

/-! ### Row times and deliveries (R63, R64, R128, R135, R136) -/

section
variable {s : State} {k : Nat}

/-- Some bound on the rows offered holds in every part of a frame. -/
theorem State.StreamLaw.atGap_or_running (law : s.StreamLaw) :
    ∃ bound, s.out.AtGap .none ∨ s.out.Running s.timer.current bound := by
  cases law with
  | past out => exact ⟨0, .inl out⟩
  | settled out | awaiting out => exact ⟨_, .inr out⟩

/-- While no frame is counted before its read end, nothing of one is in the stream and no row is pending. -/
theorem State.StreamLaw.atGap_of_past (law : s.StreamLaw)
    (past : ∀ k, s.timer.phase = .counting k → s.timer.readEndPassed = true) :
    s.out.AtGap .none ∧ s.rows.pendingRow = none := by
  cases law with
  | past out pending => exact ⟨out, pending⟩
  | settled _ _ slot running | awaiting _ _ slot running => simp [past _ slot] at running

/-- A row pending no more is settled with those before it. -/
theorem State.StreamLaw.settle {t : State} {row : Nat} (out : t.out.Running s.timer.current (row + 1))
    (timer : t.timer = s.timer) (pending : t.rows.pendingRow = none) (slot : s.timer.phase = .counting (row + 1))
    (running : s.timer.readEndPassed = false) (within : row < t.items.rowsRead) (tail : t.rows.tailOffered = false) :
    t.StreamLaw :=
  .settled (by rwa [timer]) pending (by rw [timer, slot]) (by rw [timer, running]) within tail

/-- A deadline passes in the slot whose end it is: the row pending is missing, and no row is then (R136). -/
theorem State.StreamLaw.takeDeadline (law : s.StreamLaw) (counting : s.timer.phase = .counting k) :
    (s.takeDeadline k).StreamLaw ∧ (s.takeDeadline k).rows.pendingRow = none := by
  unfold State.takeDeadline
  cases law with
  | past out pending readEnd tail => simp [pending, State.StreamLaw.past out pending readEnd tail]
  | settled out pending slot running within tail =>
    simp [pending, State.StreamLaw.settled out pending slot running within tail]
  | @awaiting row out pending slot running within tail =>
    obtain rfl : row + 1 = k := by simpa [slot] using counting
    simp only [pending, if_true]
    exact ⟨.settle (s := s) (out.mono (Nat.le_succ row)) rfl rfl slot running within tail, rfl⟩

/-- The TAIL leaves of the row engine only that it has been offered (R138). -/
@[simp] theorem State.offerTail_rows (s : State) (cut stopped : Bool) :
    (s.offerTail cut stopped).rows = { s.rows with tailOffered := true } := by
  unfold State.offerTail; dsimp only
  split <;> rfl

@[simp] theorem State.readEnd_timer (s : State) (k : Nat) :
    (s.readEnd k).timer = { s.timer with readEndPassed := true } := by
  simp [State.readEnd]

@[simp] theorem State.readEnd_rows_phase (s : State) (k : Nat) : (s.readEnd k).rows.phase = s.rows.phase := by
  simp [State.readEnd]

/-- The read end settles the frame's last row and closes the frame in the stream (R63, R147). -/
theorem State.StreamLaw.readEnd (law : s.StreamLaw) (counting : s.timer.phase = .counting k)
    (frame : s.rows.phase = .frame) (due : s.items.rowsRead ≤ k) :
    (s.readEnd k).StreamLaw ∧ (s.readEnd k).rows.pendingRow = none := by
  obtain ⟨settled, missed⟩ := law.takeDeadline counting
  obtain ⟨bound, out⟩ := settled.atGap_or_running
  have closed : (s.readEnd k).out.AtGap .none := by
    unfold State.readEnd
    refine State.offerTail_atGap (bound := bound) ?_ false false
    exact out
  have pending : (s.readEnd k).rows.pendingRow = none := by simpa [State.readEnd] using missed
  refine ⟨.past closed pending ?_ ?_, pending⟩
  · simpa [State.readEnd, counting] using due
  · simp [State.readEnd, frame]

/-- The slots go by with no READ once no frame runs before its read end (R63, R64, R128). -/
theorem State.StreamLaw.passSlot_past (out : s.out.AtGap .none) (pending : s.rows.pendingRow = none)
    (tail : s.rows.tailOffered = true ↔ s.rows.phase = .frame) (noRead : slotRead s.items s.rows.phase k = none)
    {next : TimerPhase} (readEnd : ∀ j, next = .counting j → s.timer.readEndPassed = true ∧ s.items.rowsRead ≤ j) :
    (s.passSlot k next).StreamLaw := by
  unfold State.passSlot; dsimp only
  split
  · exact .past out (by simp [RowEngine.issueSlot, noRead, pending]) readEnd tail
  · exact .past (by simpa using out) (by simp [RowEngine.issueSlot, noRead, pending])
      (by simp [State.enterWait]) (by simpa [RowEngine.issueSlot] using tail)

/-- The end of a slot of a frame, its deadline and read end taken, makes its READ's row the pending one (R128). -/
theorem State.StreamLaw.passSlot_frame (law : s.StreamLaw) (counting : s.timer.phase = .counting k)
    (pending : s.rows.pendingRow = none) (frame : s.rows.phase = .frame)
    (readEnd : s.timer.readEndPassed = false → k ≠ s.items.rowsRead) (fits : s.items.rowsRead < s.items.framePeriod) :
    (s.passSlot k (.counting (k + 1))).StreamLaw := by
  cases law with
  | past out _ passed tail =>
    obtain ⟨taken, below⟩ := passed k counting
    refine .passSlot_past out pending tail (by simp [slotRead, below]) ?_
    rintro _ ⟨⟩
    exact ⟨taken, below.trans (Nat.le_succ k)⟩
  | @settled j out _ slot running within tail =>
    obtain rfl : j = k := by simpa [slot] using counting
    have read : j < s.items.rowsRead := lt_of_le_of_ne within (readEnd running)
    unfold State.passSlot; dsimp only
    rw [if_pos (by omega)]
    exact .awaiting out (by simp [RowEngine.issueSlot, slotRead, frame, read]) rfl running read tail
  | awaiting _ row => simp [row] at pending

/-- A row accepted is offered, any other is a row fault, and either way no row is pending (R135 to R138). -/
theorem State.StreamLaw.checkDelivery (law : s.StreamLaw) (atReadEnd : Bool) (d : Delivery) :
    (s.checkDelivery atReadEnd d).StreamLaw := by
  unfold State.checkDelivery
  split
  next p row =>
    cases law with
    | past _ pending | settled _ pending => simp [pending] at row
    | awaiting out pending slot running within tail =>
      obtain rfl : _ = p := by simpa [pending] using row
      dsimp only
      split
      · unfold State.acceptRow; dsimp only
        rw [if_neg (by simp [tail])]
        refine .settle (s := s) ?_ (by simp) (by simp) slot running (by simpa using within) (by simpa using tail)
        refine State.offerRow_running ?_ d.pixels
        exact out
      · exact .settle (s := s) (out.mono (Nat.le_succ _)) rfl rfl slot running within tail
  next =>
    repeat' split
    all_goals exact law.of_view rfl

theorem State.StreamLaw.completeDelivery (law : s.StreamLaw) (atReadEnd : Bool) :
    (s.completeDelivery atReadEnd).StreamLaw := by
  unfold State.completeDelivery
  split
  next d _ =>
    have closed : (s.withRows { s.rows with delivery := none }).StreamLaw := law.of_view rfl
    exact closed.checkDelivery atReadEnd d
  · exact law

/-! ### Frame starts and ends (R64, R67 to R70, R144, R147) -/

/-- A frame that ends before its read end is closed in the stream (R78, R147). -/
theorem State.StreamLaw.endEarly (law : s.StreamLaw) (cut stopped : Bool) :
    (s.endEarly cut stopped).out.AtGap .none := by
  obtain ⟨bound, out⟩ := law.atGap_or_running
  unfold State.endEarly
  refine State.offerTail_atGap (bound := bound) ?_ cut stopped
  exact out

/-- A cut leaves nothing of the frame, nor does an end that has come before the mark (R70, R133). -/
theorem State.StreamLaw.cutFrame (law : s.StreamLaw) :
    s.cutFrame.out.AtGap .none ∧ s.cutFrame.rows.pendingRow = none := by
  unfold State.cutFrame
  split
  next k slot =>
    refine ⟨?_, rfl⟩
    dsimp only
    split
    next passed => exact (law.atGap_of_past fun _ _ => passed).1
    next => exact law.endEarly true false
  next slot => exact ⟨(law.atGap_of_past (by simp [slot])).1, rfl⟩
  all_goals next slot => exact law.atGap_of_past (by simp [slot])

/-- A frame start opens the frame in the stream or skips it, before its first row (R68, R144, R145). -/
theorem State.StreamLaw.frameStart (out : s.out.AtGap .none) (pending : s.rows.pendingRow = none)
    (kind : StartKind) (lag : Nat) (incomplete : Bool) : (s.frameStart kind lag incomplete).StreamLaw := by
  refine .settled (k := 0) ?_ ?_ ?_ ?_ (Nat.zero_le _) ?_
  · rw [State.frameStart_timer]
    exact State.offerHead_running (s := ((s.startSchedule incomplete).withTimer
      (s.timer.startFrame kind lag)).planFrame kind) out _
  · simpa [State.frameStart, State.planFrame, RowEngine.startFrame] using pending
  · simp [State.frameStart_timer, FrameTimer.startFrame]
  · simp [State.frameStart_timer, FrameTimer.startFrame]
  · simp [State.frameStart, State.planFrame, RowEngine.startFrame]

/-- At a mark the frame timer starts a frame from the wait, or cuts the one it counts (R67, R70). -/
theorem State.StreamLaw.markFrame (law : s.StreamLaw) (incomplete : Bool) : (s.markFrame incomplete).StreamLaw := by
  unfold State.markFrame
  split
  next slot =>
    obtain ⟨out, pending⟩ := law.atGap_of_past (by simp [slot])
    exact .frameStart out pending ..
  · exact .frameStart law.cutFrame.1 law.cutFrame.2 ..
  · exact .frameStart law.cutFrame.1 law.cutFrame.2 ..
  · exact law

theorem State.StreamLaw.recogniseMark (law : s.StreamLaw) : s.recogniseMark.StreamLaw := by
  unfold State.recogniseMark; dsimp only
  have marked := law.of_view (t := (s.closeAtMark.withLine
    (s.closeAtMark.line.atMark s.closeAtMark.station.state.drives)).withStation s.closeAtMark.station.seeMark) (by simp)
  exact (marked.markFrame s.windowIncomplete).of_view (by simp)

/-- The wait has no frame before its read end, so a local frame starts (R69). -/
theorem State.StreamLaw.localFrame (law : s.StreamLaw) {w : Nat} (wait : s.timer.phase = .wait w) :
    s.localFrame.StreamLaw := by
  obtain ⟨out, pending⟩ := law.atGap_of_past (by simp [wait])
  exact State.StreamLaw.of_view (.frameStart out pending .local _ false) rfl

/-- What a LISTEN station does at a local frame start changes nothing of the stream but by a mark (R72). -/
theorem State.StreamLaw.listenFrame (law : s.StreamLaw) (read : Level) : (s.listenFrame read).StreamLaw := by
  unfold State.listenFrame; dsimp only
  split
  · cases read with
    | dominant => exact law.of_view (by simp)
    | recessive =>
      dsimp only
      split
      · exact (law.of_view (by simp)).recogniseMark
      · exact law.of_view (by simp)
  · exact law.of_view (by simp)

end

/-! ### The slots of a sound state (R63, R74, R161) -/

/-- While a frame's slots are counted the row engine runs it, and the read end comes before the expiry (R62, R161). -/
theorem State.frame_of_counting {s : State} {k : Nat} (hs : s.sound = true) (counting : s.timer.phase = .counting k) :
    s.rows.phase = .frame ∧ s.items.rowsRead < s.items.framePeriod := by
  simp only [State.sound, State.configured, State.phasesAgree, counting, Bool.and_eq_true, Bool.or_eq_true,
    beq_iff_eq] at hs
  obtain ⟨⟨-, checked⟩, -, phases⟩ := hs
  cases frame : s.rows.phase with
  | frame =>
    simp only [frame, Bool.and_eq_true] at phases
    obtain ⟨⟨active, -⟩, -⟩ := phases
    have running : s.station.state ≠ .off := by simpa [State.active] using active
    exact ⟨rfl, ((Items.startCheck_none_iff _).1 (checked.resolve_left running)).geometry⟩
  | idle | leadIn => simp [frame] at phases

/-- In the lead-in no frame runs at the row engine (R74). -/
theorem State.leadIn_of_leadIn {s : State} {k : Nat} (hs : s.sound = true) (slot : s.timer.phase = .leadIn k) :
    s.rows.phase = .leadIn := by
  simp only [State.sound, State.phasesAgree, slot, Bool.and_eq_true] at hs
  obtain ⟨-, -, phases⟩ := hs
  cases row : s.rows.phase with
  | leadIn => rfl
  | idle | frame => simp [row] at phases

/-- The end of a slot keeps the laws of the stream: its deadline and, at slot H, its read end, then its READ (R63,
R128, R136). -/
theorem State.StreamLaw.endSlot {s : State} (law : s.StreamLaw) (hs : s.sound = true) : s.endSlot.StreamLaw := by
  unfold State.endSlot
  split
  next k slot =>
    have leadIn := State.leadIn_of_leadIn hs slot
    cases law with
    | past out pending _ tail => exact .passSlot_past out pending tail (by simp [slotRead, leadIn]) (by simp)
    | settled _ _ counting | awaiting _ _ counting => simp [slot] at counting
  next k slot =>
    obtain ⟨frame, fits⟩ := State.frame_of_counting hs slot
    obtain ⟨settled, missed⟩ := law.takeDeadline slot
    dsimp only
    split
    next due =>
      have last : k = s.items.rowsRead := by simp_all [State.readEndDue]
      obtain ⟨closed, pending⟩ := settled.readEnd (k := k) (by simpa using slot) (by simpa using frame) (by simp [last])
      exact closed.passSlot_frame (by simpa using slot) pending (by simpa using frame) (by simp) (by simpa using fits)
    next due =>
      refine settled.passSlot_frame (by simpa using slot) missed (by simpa using frame) ?_ (by simpa using fits)
      intro running last
      exact due (by simpa [State.readEndDue] using And.intro last running)
  · exact law
  · exact law

/-! ### The commands (R63, R69, R81, R82, R135, R149, R152) -/

/-- Whatever next state the outcome names meets the laws of the stream. -/
def StreamLawAfter (o : Host.Outcome State Fault Refusal) : Prop := ∀ t, o = .next t → t.StreamLaw

theorem StreamLawAfter.next {t : State} (h : t.StreamLaw) : StreamLawAfter (.next t) := by
  rintro _ ⟨⟩
  exact h

section
variable {s : State}

/-- A command whose effect, if its condition holds, is none that the laws of the stream look at. -/
theorem State.StreamLaw.due {t : State} {p : Prop} [Decidable p] (law : s.StreamLaw)
    (h : t.streamView = s.streamView) : StreamLawAfter (if p then .next t else .next s) := by
  split
  · exact .next (law.of_view h)
  · exact .next law

/-- In OFF the timer is idle, so that nothing of a frame is in the stream (R62). -/
theorem State.StreamLaw.idle_of_off (law : s.StreamLaw) (hs : s.sound = true) (off : s.station.state = .off) :
    s.timer.phase = .idle ∧ s.out.AtGap .none ∧ s.rows.pendingRow = none := by
  have idle : s.timer.phase = .idle := by
    simp only [State.sound, State.phasesAgree, Bool.and_eq_true] at hs
    obtain ⟨-, -, phases⟩ := hs
    split at phases
    next timer row => exact timer
    all_goals simp [State.inLeadIn, State.active, off] at phases
  exact ⟨idle, law.atGap_of_past (by simp [idle])⟩

/-- An accepted word, or a record sent, leaves the stream in the same part of the frame (R149). -/
theorem execOutputWordAccept_streamLaw (law : s.StreamLaw) : StreamLawAfter (execOutputWordAccept s) := by
  unfold execOutputWordAccept
  split
  next => exact .next law
  next r rest queue =>
    split
    next more =>
      exact .next (law.of_follows
        ⟨fun _ h => { h with budgeted := h.budgeted.nextWord queue more },
          fun _ _ h => { h with budgeted := h.budgeted.nextWord queue more }⟩ rfl rfl rfl)
    next =>
      refine .next (law.of_follows ⟨fun _ h => ?_, fun _ _ h => ?_⟩ rfl rfl rfl)
      · exact { h with budgeted := h.budgeted.giveBack queue, reads := h.reads.tail queue }
      · obtain ⟨next, below, reads⟩ := h.reads
        exact { h with budgeted := h.budgeted.giveBack queue, reads := ⟨next, below, reads.tail queue⟩ }

/-- A notice moves only between frames, into an entry of its own (R152). -/
theorem execNoticeMove_streamLaw (law : s.StreamLaw) : StreamLawAfter (execNoticeMove s) := by
  unfold execNoticeMove
  split
  next => exact .next law
  next n rest _ =>
    split
    next free =>
      simp only [OutputUnit.noticeCanMove, OutputUnit.controlFree, Bool.and_eq_true, beq_iff_eq] at free
      obtain ⟨gap, room, -⟩ := free
      have fits : s.out.controlHeld + 1 ≤ 8 := by have := of_decide_eq_true room; omega
      refine .next (law.of_follows ⟨fun _ h => ?_, fun _ _ h => ?_⟩ rfl rfl rfl)
      · exact { h with
          budgeted := h.budgeted.concat rfl rfl rfl rfl rfl
            ⟨fits, h.budgeted.rowsFit, h.budgeted.pixelsFit⟩
          reads := h.reads.concat rfl rfl }
      · exact absurd (gap.symm.trans h.position) (by decide)
    next => exact .next law

/-- WRITE_ITEM changes an item only in OFF, where no frame runs (R160). -/
theorem execWriteItem_streamLaw (hs : s.sound = true) (law : s.StreamLaw) (index : Byte) (word : Word) :
    StreamLawAfter (execWriteItem index word s) := by
  unfold execWriteItem
  split
  · by_cases off : s.station.state = .off
    · obtain ⟨idle, out, pending⟩ := law.idle_of_off hs off
      cases law with
      | past _ _ _ tail => exact .next (.past out pending (fun _ slot => nomatch idle.symm.trans slot) tail)
      | settled _ _ slot | awaiting _ _ slot => simp [idle] at slot
    · have kept : (writeOutcome s.station.state s.items index.toNat word).2 = s.items := by
        unfold writeOutcome
        rw [if_pos (c := s.station.state ≠ .off) off]
        split <;> rfl
      exact .next (law.of_view (State.withPort_streamView s (by simp [kept])))
  · exact .next law

/-- START opens the lead-in, with nothing of a frame in the stream, from OFF alone (R142, R161). -/
theorem execStart_streamLaw (hs : s.sound = true) (law : s.StreamLaw) (mark : Level) :
    StreamLawAfter (execStart mark s) := by
  unfold execStart
  split
  · cases off : s.station.state with
    | off =>
      obtain ⟨-, out, -⟩ := law.idle_of_off hs off
      have started : (s.started mark).StreamLaw :=
        .past { out with budgeted := { out.budgeted with }, admission := rfl } rfl (fun _ slot => nomatch slot)
          (by simp [State.started, RowEngine.started, RowEngine.powerOn])
      dsimp only
      split
      · exact .next (started.of_view (by simp))
      · exact .next (law.of_view (State.withPort_streamView s rfl))
    | listen | joining | synced | barred => exact .next (law.of_view (by simp))
  · exact .next law

/-- A frame before its read end is closed in the stream by STOP (R78, R139). -/
theorem State.StreamLaw.endStoppedFrame (law : s.StreamLaw) : s.endStoppedFrame.out.AtGap .none := by
  unfold State.endStoppedFrame
  split
  · split
    next passed => exact (law.atGap_of_past fun _ _ => passed).1
    next => exact law.endEarly false true
  all_goals next slot => exact (law.atGap_of_past (by simp [slot])).1

/-- STOP leaves no frame (R82, R139, R147). -/
theorem execStop_streamLaw (law : s.StreamLaw) : StreamLawAfter (execStop s) := by
  unfold execStop
  split
  · have out := law.endStoppedFrame
    have stopped : s.stopped.StreamLaw :=
      .past { out with budgeted := { out.budgeted with }, admission := rfl } rfl (fun _ slot => nomatch slot)
        (by simp [State.stopped, RowEngine.stopped, RowEngine.powerOn])
    cases s.station.state with
    | off => exact .next (law.of_view (by simp))
    | listen | joining | synced | barred => exact .next (stopped.of_view (by simp))
  · exact .next law

/-- MARK starts a frame, and a read of MARK that is no mark changes nothing of the stream (R5, R9). -/
theorem execMark_streamLaw (law : s.StreamLaw) (atWindowClose : Bool) :
    StreamLawAfter (execMark s atWindowClose) := by
  unfold execMark
  split
  · exact .next law.recogniseMark
  · split
    · exact .next (law.of_view (State.withLine_streamView ..)).recogniseMark
    · exact law.due rfl

/-- PATIENCE_EXPIRY comes in the wait and opens a local frame, which a rise found at once cuts (R69, R72). -/
theorem execPatienceExpiry_streamLaw (law : s.StreamLaw) (read : Level) :
    StreamLawAfter (execPatienceExpiry read s) := by
  unfold execPatienceExpiry
  split
  next due =>
    unfold State.patienceDue at due
    split at due
    next w wait =>
      have opened := law.localFrame wait
      cases s.station.state with
      | joining | synced => exact .next (opened.of_view (by simp))
      | listen => exact .next (opened.listenFrame read)
      | barred | off => exact .next opened
    all_goals contradiction
  next => exact .next law

/-- The sensor port offers the rows of the frame now running (R126, R134 to R138). -/
theorem sensorPort_streamLaw (law : s.StreamLaw) :
    StreamLawAfter (execSensorCommandSend s) ∧ (∀ atReadEnd, StreamLawAfter (execDelivery atReadEnd s))
    ∧ (∀ atReadEnd, StreamLawAfter (execDeliveryOpen atReadEnd s))
    ∧ ∀ word, StreamLawAfter (execDeliveryWord word s) := by
  refine ⟨?_, fun atReadEnd => ?_, fun atReadEnd => ?_, fun word => ?_⟩
  · unfold execSensorCommandSend
    split <;> exact .next (law.of_view rfl)
  · unfold execDelivery
    split
    · exact .next law
    all_goals exact .next (law.completeDelivery atReadEnd)
  · unfold execDeliveryOpen
    split
    · exact .next law
    all_goals exact .next ((law.completeDelivery atReadEnd).of_view rfl)
  · unfold execDeliveryWord
    split <;> exact .next (law.of_view rfl)

/-- The row times move the frame through its parts (R63, R64, R136). -/
theorem rowTime_streamLaw (hs : s.sound = true) (law : s.StreamLaw) :
    StreamLawAfter (execRowSlotEnd s) ∧ StreamLawAfter (execReadEnd s) ∧ StreamLawAfter (execDeadline s)
    ∧ StreamLawAfter (execExpiry s) ∧ StreamLawAfter (execWaitTimerTick s) := by
  refine ⟨.next (law.endSlot hs), ?_, ?_, ?_, ?_⟩
  · unfold execReadEnd
    split
    next k slot =>
      split
      next due =>
        obtain ⟨last, -⟩ : k = s.items.rowsRead ∧ s.timer.readEndPassed = false := by
          simpa [State.readEndDue] using due
        exact .next (law.readEnd slot (State.frame_of_counting hs slot).1 last.ge).1
      next => exact .next law
    all_goals exact .next law
  · unfold execDeadline
    split
    next k slot => exact .next (law.takeDeadline slot).1
    all_goals exact .next law
  · unfold execExpiry
    repeat' split
    · exact .next (law.endSlot hs)
    all_goals exact .next law
  · unfold execWaitTimerTick
    split
    next w slot =>
      split
      · cases law with
        | past out pending _ tail => exact .next (.past out pending (fun _ counting => nomatch counting) tail)
        | settled _ _ counting | awaiting _ _ counting => simp [slot] at counting
      · exact .next law
    all_goals exact .next law

/-- The transactions and events of the control port that write no item change nothing of the stream (R156 to R158,
R163, R165). -/
theorem portCommand_streamLaw (law : s.StreamLaw) :
    (∀ index, StreamLawAfter (execReadItem index s)) ∧ (∀ index, StreamLawAfter (execReadRoster index s))
    ∧ StreamLawAfter (execReadStatus s) ∧ StreamLawAfter (execHoldOn s) ∧ StreamLawAfter (execHoldOff s)
    ∧ (∀ code, StreamLawAfter (execUnknownCommandByte code s)) ∧ StreamLawAfter (execLastDataByteSent s)
    ∧ StreamLawAfter (execTransactionAbandoned s) ∧ ∀ selHigh, StreamLawAfter (execResetRelease selHigh s) := by
  refine ⟨fun _ => law.due rfl, fun _ => law.due rfl, law.due rfl, law.due rfl, law.due rfl, fun _ => law.due rfl,
    ?_, ?_, fun selHigh => ?_⟩
  · unfold execLastDataByteSent
    split <;> exact .next (law.of_view rfl)
  · unfold execTransactionAbandoned
    split <;> exact .next (law.of_view rfl)
  · unfold execResetRelease
    split <;> exact .next (law.of_view rfl)

/-- The bits and closes of a round, and the hold on MARK, change nothing of the stream (R6, R8, R16, R35, R37,
R65). -/
theorem roundCommand_streamLaw (law : s.StreamLaw) :
    StreamLawAfter (execRoundBitStart s) ∧ (∀ read, StreamLawAfter (execRoundBitSample read s))
    ∧ StreamLawAfter (execRoundEnd s) ∧ StreamLawAfter (execWindowClose s) ∧ StreamLawAfter (execLocalWindowClose s)
    ∧ StreamLawAfter (execMarkFall s) ∧ StreamLawAfter (execMarkHold s)
    ∧ ∀ level, StreamLawAfter (execMarkDriveFault level s) := by
  refine ⟨law.due rfl, fun _ => law.due (by simp), law.due rfl, law.due (by simp), law.due (by simp), law.due rfl,
    law.due ?_, fun level => ?_⟩
  · split <;> simp
  · unfold execMarkDriveFault
    split
    · exact .next law
    · cases level <;> exact .next (law.of_view (by simp))

end

/-- Power-on reset leaves an empty stream (R142, R165). -/
theorem execPowerOnReset_streamLaw (s : State) : StreamLawAfter (execPowerOnReset s) := by
  have empty : OutputUnit.powerOn.Budgeted := ⟨rfl, rfl, rfl, by decide, by decide, by decide, fun _ => rfl, nofun⟩
  exact .next (.past ⟨empty, rfl, rfl, .gap, rfl⟩ rfl nofun (by simp [State.reset, RowEngine.powerOn]))

/-- Every command keeps the laws of the stream. -/
theorem exec_streamLaw (c : Instr) {s : State} (hs : s.sound = true) (law : s.StreamLaw) :
    StreamLawAfter (exec c s) := by
  obtain ⟨send, delivery, deliveryOpen, deliveryWord⟩ := sensorPort_streamLaw law
  obtain ⟨slotEnd, readEnd, deadline, expiry, tick⟩ := rowTime_streamLaw hs law
  obtain ⟨readItem, readRoster, readStatus, holdOn, holdOff, unknown, lastByte, abandoned, release⟩ :=
    portCommand_streamLaw law
  obtain ⟨bitStart, bitSample, roundEnd, close, localClose, fall, hold, driveFault⟩ := roundCommand_streamLaw law
  cases c with
  | readItem index => exact readItem index
  | writeItem index word => exact execWriteItem_streamLaw hs law index word
  | readRoster index => exact readRoster index
  | readStatus => exact readStatus
  | start mark => exact execStart_streamLaw hs law mark
  | stop => exact execStop_streamLaw law
  | holdOn => exact holdOn
  | holdOff => exact holdOff
  | unknownCommandByte code => exact unknown code
  | transactionAbandoned => exact abandoned
  | powerOnReset => exact execPowerOnReset_streamLaw s
  | mark atWindowClose => exact execMark_streamLaw law atWindowClose
  | markHold => exact hold
  | markDriveFault level => exact driveFault level
  | windowClose => exact close
  | localWindowClose => exact localClose
  | rowSlotEnd => exact slotEnd
  | readEnd => exact readEnd
  | deadline => exact deadline
  | expiry => exact expiry
  | patienceExpiry read => exact execPatienceExpiry_streamLaw law read
  | delivery atReadEnd => exact delivery atReadEnd
  | sensorCommandSend => exact send
  | outputWordAccept => exact execOutputWordAccept_streamLaw law
  | noticeMove => exact execNoticeMove_streamLaw law
  | roundBitStart => exact bitStart
  | roundBitSample level => exact bitSample level
  | roundEnd => exact roundEnd
  | markFall => exact fall
  | waitTimerTick => exact tick
  | deliveryOpen atReadEnd => exact deliveryOpen atReadEnd
  | deliveryWord word => exact deliveryWord word
  | lastDataByteSent => exact lastByte
  | resetRelease selHigh => exact release selHigh

/-- Settles O59: the manual's laws are the three parts of a frame, and every command leads from one of them to one
of them. -/
theorem everyStepKeepsTheStreamInShape : Obligations.EveryStepKeepsTheStreamInShape := by
  intro s t hs right h
  rw [State.streamRight_iff] at right ⊢
  unfold step at h
  split at h
  next => cases h; exact right
  next c rest _ => exact exec_streamLaw c (s := s.withPending rest) hs (right.of_view rfl) t h

end Sys2Proof.Machine
end

section
/-! SUPPORT. Family 10, the control port: the configuration items under every command. -/

namespace Sys2Proof.Machine

/-! ### The items under the control port's operations (R82, R159, R160) -/

/-- Outside OFF the first two cases of R159 leave a WRITE_ITEM no item to change. -/
theorem writeOutcome_items_of_running {state : StationState} (running : state ≠ .off) (it : Items) (index : Nat)
    (word : Word) : (writeOutcome state it index word).2 = it := by
  unfold writeOutcome
  rw [if_pos running]
  split <;> rfl

@[simp] theorem State.answer_items (s : State) (r : CommandResult) : (s.answer r).items = s.items := rfl

@[simp] theorem State.openRead_items (s : State) (received : List Byte) (word : Option Word) (status : Bool) :
    (s.openRead received word status).items = s.items := rfl

@[simp] theorem State.stopped_items (s : State) : s.stopped.items = s.items := s.endStoppedFrame_items

/-! ### The commands that keep the items -/

/-- Whatever next state the outcome names, its configuration items are those of `s`. -/
def State.ItemsKeptBy (s : State) (o : Host.Outcome State Fault Refusal) : Prop :=
  ∀ t, o = .next t → t.items = s.items

theorem State.ItemsKeptBy.next {s t : State} (h : t.items = s.items) : s.ItemsKeptBy (.next t) := by
  rintro _ ⟨⟩
  exact h

/-- A command whose effect waits on a condition. -/
theorem State.ItemsKeptBy.due {s t : State} {p : Prop} [Decidable p] (h : t.items = s.items) :
    s.ItemsKeptBy (if p then .next t else .next s) := by
  split
  · exact .next h
  · exact .next rfl

section
variable (s : State)

/-- Outside OFF a WRITE_ITEM is answered and writes nothing (R159, R160). -/
theorem execWriteItem_keepsItems (running : s.station.state ≠ .off) (index : Byte) (word : Word) :
    s.ItemsKeptBy (execWriteItem index word s) :=
  .due (writeOutcome_items_of_running running s.items index.toNat word)

/-- START reads the items (R161). -/
theorem execStart_keepsItems (mark : Level) : s.ItemsKeptBy (execStart mark s) := by
  have started : (s.started mark).items = s.items := rfl
  unfold execStart
  split
  · cases s.station.state with
    | off =>
      dsimp only
      split <;> exact .next (by simp [started])
    | listen | joining | synced | barred => exact .next (s.answer_items _)
  · exact .next rfl

/-- STOP has no column for the items (R82, R162). -/
theorem execStop_keepsItems : s.ItemsKeptBy (execStop s) := by
  unfold execStop
  split
  · cases s.station.state <;> exact .next (by simp)
  · exact .next rfl

/-- No other transaction writes an item (R156, R158, R162, R163). -/
theorem transaction_keepsItems :
    (∀ index, s.ItemsKeptBy (execReadItem index s)) ∧ (∀ index, s.ItemsKeptBy (execReadRoster index s))
    ∧ s.ItemsKeptBy (execReadStatus s) ∧ s.ItemsKeptBy (execHoldOn s) ∧ s.ItemsKeptBy (execHoldOff s)
    ∧ (∀ code, s.ItemsKeptBy (execUnknownCommandByte code s)) :=
  ⟨fun _ => .due (s.openRead_items ..), fun _ => .due (s.openRead_items ..), .due (s.openRead_items ..),
    .due (State.answer_items ..), .due (State.answer_items ..), fun _ => .due (s.answer_items _)⟩

/-- The port's own events change its transaction, result, attention and mode (R156, R157, R165). -/
theorem portEvent_keepsItems :
    s.ItemsKeptBy (execLastDataByteSent s) ∧ s.ItemsKeptBy (execTransactionAbandoned s)
    ∧ (∀ selHigh, s.ItemsKeptBy (execResetRelease selHigh s)) := by
  refine ⟨?_, ?_, fun selHigh => ?_⟩
  · unfold execLastDataByteSent
    split <;> exact .next rfl
  · unfold execTransactionAbandoned
    split <;> exact .next rfl
  · unfold execResetRelease
    split <;> exact .next rfl

/-- The output port changes the output unit (R149, R152). -/
theorem outputPort_keepsItems : s.ItemsKeptBy (execOutputWordAccept s) ∧ s.ItemsKeptBy (execNoticeMove s) := by
  constructor
  · unfold execOutputWordAccept
    split
    · exact .next rfl
    · split <;> exact .next rfl
  · unfold execNoticeMove
    split
    · exact .next rfl
    · exact .due rfl

/-- The sensor port's commands and deliveries read the items (R126, R134 to R138). -/
theorem sensorPort_keepsItems :
    s.ItemsKeptBy (execSensorCommandSend s) ∧ (∀ atReadEnd, s.ItemsKeptBy (execDelivery atReadEnd s))
    ∧ (∀ atReadEnd, s.ItemsKeptBy (execDeliveryOpen atReadEnd s))
    ∧ (∀ word, s.ItemsKeptBy (execDeliveryWord word s)) := by
  refine ⟨?_, fun atReadEnd => ?_, fun atReadEnd => ?_, fun word => ?_⟩
  · unfold execSensorCommandSend
    split <;> exact .next rfl
  · unfold execDelivery
    split
    · exact .next rfl
    all_goals exact .next (s.completeDelivery_items atReadEnd)
  · unfold execDeliveryOpen
    split
    · exact .next rfl
    all_goals exact .next (s.completeDelivery_items atReadEnd)
  · unfold execDeliveryWord
    split <;> exact .next rfl

/-- The row times read the items (R63, R64, R136). -/
theorem rowTime_keepsItems :
    s.ItemsKeptBy (execRowSlotEnd s) ∧ s.ItemsKeptBy (execReadEnd s) ∧ s.ItemsKeptBy (execDeadline s)
    ∧ s.ItemsKeptBy (execExpiry s) ∧ s.ItemsKeptBy (execWaitTimerTick s) := by
  refine ⟨.next s.endSlot_items, ?_, ?_, ?_, ?_⟩
  · unfold execReadEnd
    split
    next k _ => exact .due (s.readEnd_items k)
    all_goals exact .next rfl
  · unfold execDeadline
    split
    next k _ => exact .next (s.takeDeadline_items k)
    all_goals exact .next rfl
  · unfold execExpiry
    split
    · exact .due s.endSlot_items
    · exact .next rfl
  · unfold execWaitTimerTick
    split
    · exact .due rfl
    all_goals exact .next rfl

/-- The bits of a round and the closes of its window read the items (R6, R8, R35, R37). -/
theorem round_keepsItems :
    s.ItemsKeptBy (execRoundBitStart s) ∧ (∀ read, s.ItemsKeptBy (execRoundBitSample read s))
    ∧ s.ItemsKeptBy (execRoundEnd s) ∧ s.ItemsKeptBy (execWindowClose s)
    ∧ s.ItemsKeptBy (execLocalWindowClose s) :=
  ⟨.due rfl, fun read => .due (s.sampleBit_items read), .due rfl, .due (State.passRecord_items ..),
    .due (s.passRecord_items ..)⟩

/-- A fall of MARK, the hold and its checks read the items (R5, R16, R65). -/
theorem markLine_keepsItems :
    s.ItemsKeptBy (execMarkFall s) ∧ s.ItemsKeptBy (execMarkHold s)
    ∧ (∀ level, s.ItemsKeptBy (execMarkDriveFault level s)) := by
  refine ⟨.due rfl, .due ?_, fun level => ?_⟩
  · split
    · exact State.holdMark_items ..
    · rfl
  · unfold execMarkDriveFault
    split
    · exact .next rfl
    · cases level with
      | dominant => exact .next rfl
      | recessive => exact .next (State.markFault_items _)

/-- A mark starts a frame by the items as they stand (R5, R9, R67, R70). -/
theorem execMark_keepsItems (atWindowClose : Bool) : s.ItemsKeptBy (execMark s atWindowClose) := by
  unfold execMark
  split
  · exact .next s.recogniseMark_items
  · split
    · exact .next (State.recogniseMark_items _)
    · exact .due rfl

/-- A local frame, and what the station makes of it, goes by the items as they stand (R69, R72, R89). -/
theorem execPatienceExpiry_keepsItems (read : Level) : s.ItemsKeptBy (execPatienceExpiry read s) := by
  unfold execPatienceExpiry
  split
  · cases s.station.state <;> exact .next (by simp)
  · exact .next rfl

end

/-! ### The law (R160) -/

/-- No command but a power-on reset changes an item outside OFF. -/
theorem exec_keepsItems (c : Instr) (s : State) (running : s.station.state ≠ .off) (noReset : c ≠ .powerOnReset) :
    s.ItemsKeptBy (exec c s) := by
  obtain ⟨readItem, readRoster, readStatus, holdOn, holdOff, unknown⟩ := transaction_keepsItems s
  obtain ⟨lastByte, abandoned, release⟩ := portEvent_keepsItems s
  obtain ⟨accept, noticeMove⟩ := outputPort_keepsItems s
  obtain ⟨send, delivery, deliveryOpen, deliveryWord⟩ := sensorPort_keepsItems s
  obtain ⟨slotEnd, readEnd, deadline, expiry, tick⟩ := rowTime_keepsItems s
  obtain ⟨bitStart, bitSample, roundEnd, close, localClose⟩ := round_keepsItems s
  obtain ⟨fall, hold, driveFault⟩ := markLine_keepsItems s
  cases c with
  | readItem index => exact readItem index
  | writeItem index word => exact execWriteItem_keepsItems s running index word
  | readRoster index => exact readRoster index
  | readStatus => exact readStatus
  | start mark => exact execStart_keepsItems s mark
  | stop => exact execStop_keepsItems s
  | holdOn => exact holdOn
  | holdOff => exact holdOff
  | unknownCommandByte code => exact unknown code
  | transactionAbandoned => exact abandoned
  | powerOnReset => exact absurd rfl noReset
  | mark atWindowClose => exact execMark_keepsItems s atWindowClose
  | markHold => exact hold
  | markDriveFault level => exact driveFault level
  | windowClose => exact close
  | localWindowClose => exact localClose
  | rowSlotEnd => exact slotEnd
  | readEnd => exact readEnd
  | deadline => exact deadline
  | expiry => exact expiry
  | patienceExpiry read => exact execPatienceExpiry_keepsItems s read
  | delivery atReadEnd => exact delivery atReadEnd
  | sensorCommandSend => exact send
  | outputWordAccept => exact accept
  | noticeMove => exact noticeMove
  | roundBitStart => exact bitStart
  | roundBitSample level => exact bitSample level
  | roundEnd => exact roundEnd
  | markFall => exact fall
  | waitTimerTick => exact tick
  | deliveryOpen atReadEnd => exact deliveryOpen atReadEnd
  | deliveryWord word => exact deliveryWord word
  | lastDataByteSent => exact lastByte
  | resetRelease selHigh => exact release selHigh

/-- A power-on reset ends in OFF (R83, R165). -/
theorem execPowerOnReset_off {s t : State} (h : execPowerOnReset s = .next t) : t.station.state = .off := by
  cases h
  rfl

/-- Settles O52: a power-on reset ends in OFF, and every other command keeps the items. -/
theorem itemsAreFrozenOutsideOff : Obligations.ItemsAreFrozenOutsideOff := by
  intro c s t running h
  by_cases reset : c = .powerOnReset
  · subst reset
    exact .inr ⟨rfl, execPowerOnReset_off h⟩
  · exact .inl (exec_keepsItems c s running reset t h)

end Sys2Proof.Machine
end
